-- ==== Sys2Proof/Word.lean ====
section
/-! DEFINITION. The plain types of the block: port and memory bytes, the 20-bit operation word, colours, sound
indices, CPU memory and the framebuffer grid (spec/00_scope.md R8, R11; 10_state.md R40; 30_encoding.md R90, R102, R104). -/

namespace Sys2Proof

/-- A u8: port values, port numbers, latches, memory bytes (R62, R66). -/
abbrev Byte := BitVec 8

/-- The operation word of R90. -/
abbrev OpWord := BitVec 20

/-- A u32 colour (R40, R104). -/
abbrev Colour := BitVec 32

/-- A sound index, 0 to 7 (R102). -/
abbrev SoundIndex := Fin 8

/-- The numeric interrupt vector, a u4 (R12). -/
abbrev IntVector := BitVec 4

/-- CPU memory as (address, byte) cells. Its canonical form is `Machine.memoryWf`. -/
abbrev Memory := List Host.Cell

/-- The 224 by 256 grid of colours, by canvas column, then canvas row (R40). -/
abbrev Framebuffer := Vector (Vector Colour 256) 224

end Sys2Proof
end

