-- ==== Sys2Proof/Syntax.lean ====
section
/-! DEFINITION. The operations of the block: one constructor of `Instr` per row of spec/opcode_table.json, with the
logical keys (R96) and the two half-frames (R15, R24) they speak of. -/

namespace Sys2Proof

/-- The tag `FrameHalf` (R24). -/
inductive FrameHalf where
  | top
  | bottom
  deriving DecidableEq, Repr

/-- The ten logical keys in the order of their ids 0 to 9 (R96). -/
inductive LogicalKey where
  | p1Start
  | p1Shoot
  | p1Left
  | p1Right
  | p2Start
  | p2Shoot
  | p2Left
  | p2Right
  | coin
  | tilt
  deriving DecidableEq, Repr

/-- The input latch a key binding may target: port 1 or port 2, never port 0 (R105, R211). -/
inductive InputPort where
  | port1
  | port2
  deriving DecidableEq, Repr

/-- The operations (R2). An operand `p` of an unmapped port operation is the whole port number; its range is checked by
`Instr.WellFormed`. `v` is the u8 written, `down` is the `d` bit of a key event (1 = down), `i` a sound index. The
operands of `TICK` and `POLL` are not in the word (R97) and stand in the machine's state. -/
inductive Instr where
  /-- `IN 0` (R150). -/
  | in0
  /-- `IN 1` (R151). -/
  | in1
  /-- `IN 2` (R152). -/
  | in2
  /-- `IN 3`, the shift window (R153). -/
  | in3
  /-- `IN p`, unmapped, p in 4 to 7 (R154). -/
  | inUnmapped4 (p : Byte)
  /-- `IN p`, unmapped, p in 8 to 15 (R154). -/
  | inUnmapped8 (p : Byte)
  /-- `IN p`, unmapped, p in 16 to 31 (R154). -/
  | inUnmapped16 (p : Byte)
  /-- `IN p`, unmapped, p in 32 to 63 (R154). -/
  | inUnmapped32 (p : Byte)
  /-- `IN p`, unmapped, p in 64 to 127 (R154). -/
  | inUnmapped64 (p : Byte)
  /-- `IN p`, unmapped, p in 128 to 255 (R154). -/
  | inUnmapped128 (p : Byte)
  /-- `OUT 2, v` (R156). -/
  | out2 (v : Byte)
  /-- `OUT 3, v` (R157). -/
  | out3 (v : Byte)
  /-- `OUT 4, v` (R158). -/
  | out4 (v : Byte)
  /-- `OUT 5, v` (R159). -/
  | out5 (v : Byte)
  /-- `OUT p, v`, unmapped, p in 0 to 1 (R160). -/
  | outUnmapped0 (p v : Byte)
  /-- `OUT p, v`, unmapped, p in 6 to 7 (R160). -/
  | outUnmapped6 (p v : Byte)
  /-- `OUT p, v`, unmapped, p in 8 to 15 (R160). -/
  | outUnmapped8 (p v : Byte)
  /-- `OUT p, v`, unmapped, p in 16 to 31 (R160). -/
  | outUnmapped16 (p v : Byte)
  /-- `OUT p, v`, unmapped, p in 32 to 63 (R160). -/
  | outUnmapped32 (p v : Byte)
  /-- `OUT p, v`, unmapped, p in 64 to 127 (R160). -/
  | outUnmapped64 (p v : Byte)
  /-- `OUT p, v`, unmapped, p in 128 to 255 (R160). -/
  | outUnmapped128 (p v : Byte)
  /-- `KEY P1_START, d` (R212). -/
  | keyP1Start (down : Bool)
  /-- `KEY P1_SHOOT, d` (R213). -/
  | keyP1Shoot (down : Bool)
  /-- `KEY P1_LEFT, d` (R214). -/
  | keyP1Left (down : Bool)
  /-- `KEY P1_RIGHT, d` (R215). -/
  | keyP1Right (down : Bool)
  /-- `KEY P2_START, d` (R216). -/
  | keyP2Start (down : Bool)
  /-- `KEY P2_SHOOT, d` (R217). -/
  | keyP2Shoot (down : Bool)
  /-- `KEY P2_LEFT, d` (R218). -/
  | keyP2Left (down : Bool)
  /-- `KEY P2_RIGHT, d` (R219). -/
  | keyP2Right (down : Bool)
  /-- `KEY COIN, d` (R220). -/
  | keyCoin (down : Bool)
  /-- `KEY TILT, d` (R221). -/
  | keyTilt (down : Bool)
  /-- `TICK` (R120). -/
  | tick
  /-- `DECODE Top` (R196). -/
  | decodeTop
  /-- `DECODE Bottom` (R197). -/
  | decodeBottom
  /-- `DECODE Full` (R198). -/
  | decodeFull
  /-- `LOOPSTART i` (R165). -/
  | loopStart (i : SoundIndex)
  /-- `LOOPSTOP i` (R166). -/
  | loopStop (i : SoundIndex)
  /-- `POLL` (R210). -/
  | poll
  /-- `RESET` (R270). -/
  | reset
  deriving DecidableEq, Repr

end Sys2Proof
end

