-- ==== Sys2Proof/WellFormed.lean ====
section
/-! DEFINITION. Which `Instr` terms are operations of the block: the port number of an unmapped access lies in its row's
block of ports (R93, R154, R160). Every other operand is in range by its type. -/

namespace Sys2Proof

/-- `p` is one of the ports `lo` to `hi`, both included. -/
abbrev portIn (lo hi : Nat) (p : Byte) : Prop := lo ≤ p.toNat ∧ p.toNat ≤ hi

/-- The check of an operation's operands, row by row of spec/opcode_table.json. -/
def Instr.wf : Instr → Bool
  | .inUnmapped4 p => decide (portIn 4 7 p)
  | .inUnmapped8 p => decide (portIn 8 15 p)
  | .inUnmapped16 p => decide (portIn 16 31 p)
  | .inUnmapped32 p => decide (portIn 32 63 p)
  | .inUnmapped64 p => decide (portIn 64 127 p)
  | .inUnmapped128 p => decide (portIn 128 255 p)
  | .outUnmapped0 p _ => decide (portIn 0 1 p)
  | .outUnmapped6 p _ => decide (portIn 6 7 p)
  | .outUnmapped8 p _ => decide (portIn 8 15 p)
  | .outUnmapped16 p _ => decide (portIn 16 31 p)
  | .outUnmapped32 p _ => decide (portIn 32 63 p)
  | .outUnmapped64 p _ => decide (portIn 64 127 p)
  | .outUnmapped128 p _ => decide (portIn 128 255 p)
  | .in0 | .in1 | .in2 | .in3 => true
  | .out2 _ | .out3 _ | .out4 _ | .out5 _ => true
  | .keyP1Start _ | .keyP1Shoot _ | .keyP1Left _ | .keyP1Right _ | .keyP2Start _ => true
  | .keyP2Shoot _ | .keyP2Left _ | .keyP2Right _ | .keyCoin _ | .keyTilt _ => true
  | .tick | .decodeTop | .decodeBottom | .decodeFull => true
  | .loopStart _ | .loopStop _ | .poll | .reset => true

/-- An operation whose operands are in range. -/
abbrev Instr.WellFormed (i : Instr) : Prop := i.wf = true

end Sys2Proof
end

