-- ==== Sys2Proof/Decode.lean ====
section
/-! DEFINITION. The decoder of operation words (R90 to R99), which rejects every reserved word by name (R98), and the
encoder written from the same formats. A word is one unit of 20 bits: there is no byte order and no later word. -/

namespace Sys2Proof

/-- Why a word is reserved: R98's list, one name per entry. -/
inductive ReservedWord where
  /-- Class `w[19:17]` = 111. -/
  | reservedClass
  /-- Format K with key id 10 to 15. -/
  | reservedKey
  /-- Format D with `hh` = 11. -/
  | reservedHalf
  /-- Format K, T, D, L, Q or Z with a 1 in a must-be-zero bit. -/
  | mustBeZero
  /-- Format P read with `data` not 0. -/
  | readData
  deriving DecidableEq, Repr

/-- The row of a port read, by port number (R93). -/
def portReadInstr (p : Byte) : Instr :=
  if p.toNat = 0 then .in0
  else if p.toNat = 1 then .in1
  else if p.toNat = 2 then .in2
  else if p.toNat = 3 then .in3
  else if p.toNat < 8 then .inUnmapped4 p
  else if p.toNat < 16 then .inUnmapped8 p
  else if p.toNat < 32 then .inUnmapped16 p
  else if p.toNat < 64 then .inUnmapped32 p
  else if p.toNat < 128 then .inUnmapped64 p
  else .inUnmapped128 p

/-- The row of a port write, by port number (R93). -/
def portWriteInstr (p v : Byte) : Instr :=
  if p.toNat < 2 then .outUnmapped0 p v
  else if p.toNat = 2 then .out2 v
  else if p.toNat = 3 then .out3 v
  else if p.toNat = 4 then .out4 v
  else if p.toNat = 5 then .out5 v
  else if p.toNat < 8 then .outUnmapped6 p v
  else if p.toNat < 16 then .outUnmapped8 p v
  else if p.toNat < 32 then .outUnmapped16 p v
  else if p.toNat < 64 then .outUnmapped32 p v
  else if p.toNat < 128 then .outUnmapped64 p v
  else .outUnmapped128 p v

/-- The key event of key id `k` (R96). -/
def keyInstr (k : BitVec 4) (down : Bool) : Except ReservedWord Instr :=
  match k.toNat with
  | 0 => .ok (.keyP1Start down)
  | 1 => .ok (.keyP1Shoot down)
  | 2 => .ok (.keyP1Left down)
  | 3 => .ok (.keyP1Right down)
  | 4 => .ok (.keyP2Start down)
  | 5 => .ok (.keyP2Shoot down)
  | 6 => .ok (.keyP2Left down)
  | 7 => .ok (.keyP2Right down)
  | 8 => .ok (.keyCoin down)
  | 9 => .ok (.keyTilt down)
  | _ => .error .reservedKey

/-- Format P (R91): `dir` = `w[16]`, `port` = `w[15:8]`, `data` = `w[7:0]`. -/
def decodeFormatP (w : OpWord) : Except ReservedWord Instr :=
  let port : Byte := w.extractLsb' 8 8
  let data : Byte := w.extractLsb' 0 8
  if w.getLsbD 16 then .ok (portWriteInstr port data)
  else if data = 0#8 then .ok (portReadInstr port)
  else .error .readData

/-- Format K (R94): `w[16:5]` zero, `d` = `w[4]`, `k` = `w[3:0]`. -/
def decodeFormatK (w : OpWord) : Except ReservedWord Instr :=
  if w.extractLsb' 5 12 = 0#12 then keyInstr (w.extractLsb' 0 4) (w.getLsbD 4)
  else .error .mustBeZero

/-- Formats T, Q and Z (R95): `w[16:0]` zero. -/
def decodeBare (w : OpWord) (i : Instr) : Except ReservedWord Instr :=
  if w.extractLsb' 0 17 = 0#17 then .ok i else .error .mustBeZero

/-- Format D (R95): `w[16:2]` zero, `hh` = `w[1:0]`. -/
def decodeFormatD (w : OpWord) : Except ReservedWord Instr :=
  if w.extractLsb' 2 15 = 0#15 then
    match (w.extractLsb' 0 2).toNat with
    | 0 => .ok .decodeTop
    | 1 => .ok .decodeBottom
    | 2 => .ok .decodeFull
    | _ => .error .reservedHalf
  else .error .mustBeZero

/-- Format L (R95): `w[16:4]` zero, `s` = `w[3]`, `iii` = `w[2:0]`. -/
def decodeFormatL (w : OpWord) : Except ReservedWord Instr :=
  let i : SoundIndex := (w.extractLsb' 0 3).toFin
  if w.extractLsb' 4 13 = 0#13 then .ok (if w.getLsbD 3 then .loopStop i else .loopStart i)
  else .error .mustBeZero

/-- The decoder: the class `w[19:17]`, then the fields of that class's format (R90, R99). -/
def decode (w : OpWord) : Except ReservedWord Instr :=
  match (w.extractLsb' 17 3).toNat with
  | 0 => decodeFormatP w
  | 1 => decodeFormatK w
  | 2 => decodeBare w .tick
  | 3 => decodeFormatD w
  | 4 => decodeFormatL w
  | 5 => decodeBare w .poll
  | 6 => decodeBare w .reset
  | _ => .error .reservedClass

/-- A format P word (R91): `dir` at bit 16, `port` at bit 8, `data` at bit 0. -/
def portWord (write : Bool) (p data : Byte) : OpWord :=
  (if write then 0x10000#20 else 0x00000#20) ||| p.setWidth 20 <<< 8 ||| data.setWidth 20

/-- A format K word (R94): class 001, `d` at bit 4, `k` at bit 0. -/
def keyWord (down : Bool) (k : BitVec 4) : OpWord :=
  (if down then 0x20010#20 else 0x20000#20) ||| k.setWidth 20

/-- A format T, Q or Z word (R95): the class at bit 17 and nothing else. -/
def bareWord (c : BitVec 3) : OpWord := c.setWidth 20 <<< 17

/-- A format D word (R95): class 011, `hh` at bit 0. -/
def halfWord (hh : BitVec 2) : OpWord := 0x60000#20 ||| hh.setWidth 20

/-- A format L word (R95): class 100, `s` at bit 3, `iii` at bit 0. -/
def loopWord (stop : Bool) (i : SoundIndex) : OpWord :=
  (if stop then 0x80008#20 else 0x80000#20) ||| BitVec.ofNat 20 i.val

/-- The operation word of an operation, from the formats of R91, R94 and R95. -/
def encode : Instr → OpWord
  | .in0 => portWord false 0#8 0#8
  | .in1 => portWord false 1#8 0#8
  | .in2 => portWord false 2#8 0#8
  | .in3 => portWord false 3#8 0#8
  | .inUnmapped4 p => portWord false p 0#8
  | .inUnmapped8 p => portWord false p 0#8
  | .inUnmapped16 p => portWord false p 0#8
  | .inUnmapped32 p => portWord false p 0#8
  | .inUnmapped64 p => portWord false p 0#8
  | .inUnmapped128 p => portWord false p 0#8
  | .out2 v => portWord true 2#8 v
  | .out3 v => portWord true 3#8 v
  | .out4 v => portWord true 4#8 v
  | .out5 v => portWord true 5#8 v
  | .outUnmapped0 p v => portWord true p v
  | .outUnmapped6 p v => portWord true p v
  | .outUnmapped8 p v => portWord true p v
  | .outUnmapped16 p v => portWord true p v
  | .outUnmapped32 p v => portWord true p v
  | .outUnmapped64 p v => portWord true p v
  | .outUnmapped128 p v => portWord true p v
  | .keyP1Start d => keyWord d 0#4
  | .keyP1Shoot d => keyWord d 1#4
  | .keyP1Left d => keyWord d 2#4
  | .keyP1Right d => keyWord d 3#4
  | .keyP2Start d => keyWord d 4#4
  | .keyP2Shoot d => keyWord d 5#4
  | .keyP2Left d => keyWord d 6#4
  | .keyP2Right d => keyWord d 7#4
  | .keyCoin d => keyWord d 8#4
  | .keyTilt d => keyWord d 9#4
  | .tick => bareWord 2#3
  | .decodeTop => halfWord 0#2
  | .decodeBottom => halfWord 1#2
  | .decodeFull => halfWord 2#2
  | .loopStart i => loopWord false i
  | .loopStop i => loopWord true i
  | .poll => bareWord 5#3
  | .reset => bareWord 6#3

/-- One row of spec/opcode_table.json: the bits that select it and their values. -/
structure TableRow where
  pattern : OpWord
  mask : OpWord
  deriving DecidableEq, Repr

/-- The match and mask of an operation's row, copied from spec/opcode_table.json. -/
def Instr.tableRow : Instr → TableRow
  | .in0 => ⟨0x00000#20, 0xFFFFF#20⟩
  | .in1 => ⟨0x00100#20, 0xFFFFF#20⟩
  | .in2 => ⟨0x00200#20, 0xFFFFF#20⟩
  | .in3 => ⟨0x00300#20, 0xFFFFF#20⟩
  | .inUnmapped4 _ => ⟨0x00400#20, 0xFFCFF#20⟩
  | .inUnmapped8 _ => ⟨0x00800#20, 0xFF8FF#20⟩
  | .inUnmapped16 _ => ⟨0x01000#20, 0xFF0FF#20⟩
  | .inUnmapped32 _ => ⟨0x02000#20, 0xFE0FF#20⟩
  | .inUnmapped64 _ => ⟨0x04000#20, 0xFC0FF#20⟩
  | .inUnmapped128 _ => ⟨0x08000#20, 0xF80FF#20⟩
  | .out2 _ => ⟨0x10200#20, 0xFFF00#20⟩
  | .out3 _ => ⟨0x10300#20, 0xFFF00#20⟩
  | .out4 _ => ⟨0x10400#20, 0xFFF00#20⟩
  | .out5 _ => ⟨0x10500#20, 0xFFF00#20⟩
  | .outUnmapped0 _ _ => ⟨0x10000#20, 0xFFE00#20⟩
  | .outUnmapped6 _ _ => ⟨0x10600#20, 0xFFE00#20⟩
  | .outUnmapped8 _ _ => ⟨0x10800#20, 0xFF800#20⟩
  | .outUnmapped16 _ _ => ⟨0x11000#20, 0xFF000#20⟩
  | .outUnmapped32 _ _ => ⟨0x12000#20, 0xFE000#20⟩
  | .outUnmapped64 _ _ => ⟨0x14000#20, 0xFC000#20⟩
  | .outUnmapped128 _ _ => ⟨0x18000#20, 0xF8000#20⟩
  | .keyP1Start _ => ⟨0x20000#20, 0xFFFEF#20⟩
  | .keyP1Shoot _ => ⟨0x20001#20, 0xFFFEF#20⟩
  | .keyP1Left _ => ⟨0x20002#20, 0xFFFEF#20⟩
  | .keyP1Right _ => ⟨0x20003#20, 0xFFFEF#20⟩
  | .keyP2Start _ => ⟨0x20004#20, 0xFFFEF#20⟩
  | .keyP2Shoot _ => ⟨0x20005#20, 0xFFFEF#20⟩
  | .keyP2Left _ => ⟨0x20006#20, 0xFFFEF#20⟩
  | .keyP2Right _ => ⟨0x20007#20, 0xFFFEF#20⟩
  | .keyCoin _ => ⟨0x20008#20, 0xFFFEF#20⟩
  | .keyTilt _ => ⟨0x20009#20, 0xFFFEF#20⟩
  | .tick => ⟨0x40000#20, 0xFFFFF#20⟩
  | .decodeTop => ⟨0x60000#20, 0xFFFFF#20⟩
  | .decodeBottom => ⟨0x60001#20, 0xFFFFF#20⟩
  | .decodeFull => ⟨0x60002#20, 0xFFFFF#20⟩
  | .loopStart _ => ⟨0x80000#20, 0xFFFF8#20⟩
  | .loopStop _ => ⟨0x80008#20, 0xFFFF8#20⟩
  | .poll => ⟨0xA0000#20, 0xFFFFF#20⟩
  | .reset => ⟨0xC0000#20, 0xFFFFF#20⟩

/-- A number read as an operation word. A number that needs more than 20 bits is no operation word: it is laid out as
the reserved word of class 111, so that the decoder refuses it. -/
def tableWord (w : Nat) : OpWord := if w < 2 ^ 20 then BitVec.ofNat 20 w else 0xE0000#20

/-- The operation the decoder reads from a word whose bits are `w`. The table gives every row all 20 bits of the word
(24 in whole bytes), so there is no operand word beyond `nbits`. -/
def decodeTableWord (_nbits w : Nat) : Option Instr :=
  match decode (tableWord w) with
  | .ok i => some i
  | .error _ => none

end Sys2Proof
end

