-- ==== Sys2Proof/Machine/Params.lean ====
section
/-! DEFINITION. The named parameters of R6 to which the spec gives a value: those of the source and those of the spec's
own decisions (spec/92_eei_decisions.md). Assumption log 6 lists the decisions. -/

namespace Sys2Proof.Machine

/-- `CLOCK_HZ` (R6). -/
def clockHz : Nat := 2000000

/-- `REFRESH_HZ` (R6). -/
def refreshHz : Nat := 60

/-- `INTERRUPTS_PER_FRAME` (R6). -/
def interruptsPerFrame : Nat := 2

/-- `TIME_UNITS_PER_SECOND` (R6, D1). -/
def timeUnitsPerSecond : Nat := 1000000

/-- `HALF_FRAME_DURATION`, rounded down (R6, R121, D2). -/
def halfFrameDuration : Nat := timeUnitsPerSecond / (interruptsPerFrame * refreshHz)

/-- `MAX_ELAPSED`, one second (R6, R125). -/
def maxElapsed : Nat := timeUnitsPerSecond

/-- `VRAM_BASE` (R6, R63). -/
def vramBase : Nat := 0x2400

/-- `VRAM_SIZE` (R6, R63). -/
def vramSize : Nat := 7168

/-- `HALF_SPLIT_BYTE` (R6, R196, D18). -/
def halfSplitByte : Nat := 3584

/-- `VEC_TOP` (R6, R100, D7). -/
def vecTop : IntVector := 1#4

/-- `VEC_BOTTOM` (R6, R100, D7). -/
def vecBottom : IntVector := 2#4

/-- `INITIAL_HALF` (R6, R24). -/
def initialHalf : FrameHalf := .top

/-- `COLOR_OFF` (R6, R104, D17). -/
def colorOff : Colour := 0x00000000#32

/-- `COLOR_WHITE` (R6, R104, D17). -/
def colorWhite : Colour := 0xFFFFFFFF#32

/-- `COLOR_RED` (R6, R104, D17). -/
def colorRed : Colour := 0xFFFF0000#32

/-- `COLOR_GREEN` (R6, R104, D17). -/
def colorGreen : Colour := 0xFF00FF00#32

/-- `PORT1_RESET` (R6, R31). -/
def port1Reset : Byte := 0x00#8

/-- `PORT2_RESET` (R6, R32). -/
def port2Reset : Byte := 0x00#8

/-- `KEY_BINDINGS`, target port column (R211, D11). -/
def keyPort : LogicalKey → InputPort
  | .p1Start | .p1Shoot | .p1Left | .p1Right | .p2Start | .coin => .port1
  | .p2Shoot | .p2Left | .p2Right | .tilt => .port2

/-- `KEY_BINDINGS`, bitmask column (R211, D11). -/
def keyMask : LogicalKey → Byte
  | .p1Start => 0x04#8
  | .p1Shoot => 0x10#8
  | .p1Left => 0x20#8
  | .p1Right => 0x40#8
  | .p2Start => 0x02#8
  | .p2Shoot => 0x10#8
  | .p2Left => 0x20#8
  | .p2Right => 0x40#8
  | .coin => 0x01#8
  | .tilt => 0x04#8

/-- The ten keys in ascending id, the order of a poll (R96, R210, D26). -/
def allKeys : List LogicalKey :=
  [.p1Start, .p1Shoot, .p1Left, .p1Right, .p2Start, .p2Shoot, .p2Left, .p2Right, .coin, .tilt]

end Sys2Proof.Machine
end

