-- ==== Sys2Proof/Machine/Flags.lean ====
section
/-! DEFINITION. The block has no status flags (R22). What stands in their place are the edge detectors of the two sound
latches (R35, R36, R161): which trigger bits a write raises, and the sounds they dispatch. -/

namespace Sys2Proof.Machine

/-- The trigger bits 0 to 3 that go from 0 to 1 when `v` replaces `prev`, in ascending order (R157, R161, D13). -/
def risingBits (prev v : Byte) : List (Fin 4) :=
  [0, 1, 2, 3].filter fun b : Fin 4 => !prev.getLsbD b.val && v.getLsbD b.val

/-- Bit `b` of port 3 is sound `b` (R102). -/
def latch3Sound (b : Fin 4) : SoundIndex := ⟨b.val, Nat.lt_of_lt_of_le b.isLt (by decide)⟩

/-- Bit `b` of port 5 is sound `b + 4` (R102). -/
def latch5Sound (b : Fin 4) : SoundIndex := ⟨b.val + 4, Nat.add_lt_add_right b.isLt 4⟩

end Sys2Proof.Machine
end

