-- ==== Sys2Proof/Machine/Operands.lean ====
section
/-! DEFINITION. The pure operand computations: the half-frame tag, the shift register, a key's bit, the pixel mapping and
the colour of a pixel (30_encoding.md R100, 42_peripheral_io.md R153, R158, R170, 43_framebuffer_decoder.md R190 to R193). -/

namespace Sys2Proof.Machine

/-- `other` (R120). -/
def otherHalf : FrameHalf → FrameHalf
  | .top => .bottom
  | .bottom => .top

/-- The accessor `vector` that gives a half's numeric interrupt vector (R100). -/
def halfVector : FrameHalf → IntVector
  | .top => vecTop
  | .bottom => vecBottom

/-- The 8-bit window that `IN 3` reads (R153). -/
def shiftWindow (data : BitVec 16) (amount : BitVec 3) : Byte :=
  (data >>> (8 - amount.toNat)).setWidth 8

/-- The shift register after the byte `v` is written to port 4 (R158). -/
def shiftIn (v : Byte) (data : BitVec 16) : BitVec 16 :=
  (v.setWidth 16 <<< 8) ||| (data >>> 8)

/-- A latch with the bits of `mask` set when the key is down, cleared when it is up (R105, R170, D12). -/
def setKeyBit (mask : Byte) (down : Bool) (latch : Byte) : Byte :=
  if down then latch ||| mask else latch &&& ~~~mask

/-- The video byte that holds the pixel of a canvas cell: `cx * 32 + x / 8` with `x = 255 - cy` (R192). -/
def pixelByte (cx : Fin 224) (cy : Fin 256) : Nat := cx.val * 32 + (255 - cy.val) / 8

/-- The bit of that byte that is the pixel: `x mod 8` (R192, D15). -/
def pixelBit (cy : Fin 256) : Nat := (255 - cy.val) % 8

/-- The colour of a canvas cell whose video bit is `lit` (R193). -/
def overlayColour (cx : Fin 224) (cy : Fin 256) (lit : Bool) : Colour :=
  if lit = false then colorOff
  else if 32 ≤ cy.val ∧ cy.val < 64 then colorRed
  else if (184 ≤ cy.val ∧ cy.val < 240) ∨ (184 ≤ cy.val ∧ 16 ≤ cx.val ∧ cx.val < 134) then colorGreen
  else colorWhite

/-- The cell `FB[cx, cy]` (R11, R40). -/
def cellAt (fb : Framebuffer) (cx : Fin 224) (cy : Fin 256) : Colour := fb[cx.val][cy.val]

/-- The framebuffer whose cells `f` gives. Marked irreducible so that no unification unfolds its 57,344 cells; its cells
are read through `cellAt_framebufferOf` of Sys2Proof/Laws/Ops.lean. -/
@[irreducible] def framebufferOf (f : Fin 224 → Fin 256 → Colour) : Framebuffer :=
  Vector.ofFn fun cx => Vector.ofFn fun cy => f cx cy

/-- The cells in the order the presentation sink gets them: row-major, cell `cy * 224 + cx` (R40, R256, D16). -/
def linearCells (fb : Framebuffer) : List Colour :=
  (List.finRange 256).flatMap fun cy => (List.finRange 224).map fun cx => cellAt fb cx cy

end Sys2Proof.Machine
end

