-- ==== Sys2Proof/Config.lean ====
section
/-! DEFINITION. What the spec leaves to each implementation, as uninterpreted constants: the OPEN reset value of port 0
(R6, R30) and the external CPU core (R7, R250). Parameters that the spec gives a value are in Sys2Proof/Machine/Params.lean. -/

namespace Sys2Proof.Machine

/-- The CPU core's registers, as far as its contract names them (R20, R22, R250): the accumulator, the interrupt-enable
flag, and `internal`, which stands for everything else the core keeps. Nothing but the core itself reads `internal`. -/
structure CpuRegs where
  accumulator : Byte
  interruptEnabled : Bool
  internal : Nat
  deriving DecidableEq, Repr, Inhabited

/-- What one `step` of the CPU core does, in its own order (R250, R251): it may call `PortRead` and `PortWrite` and
store bytes into its memory, any finite number of times, and then it returns. Being a finite tree it always returns
(R124). `finish` reports `extraCycles + 1` cycles, so every step reports at least one (R128). -/
inductive CpuProgram where
  /-- The step ends with these registers, having used `extraCycles + 1` cycles. -/
  | finish (regs : CpuRegs) (extraCycles : Nat)
  /-- The step calls `PortRead p` and goes on with the byte it gets. -/
  | portRead (p : Byte) (go : Byte → CpuProgram)
  /-- The step calls `PortWrite p v` and goes on. -/
  | portWrite (p v : Byte) (go : CpuProgram)
  /-- The step stores `v` at memory address `a` and goes on. -/
  | store (a : Nat) (v : Byte) (go : CpuProgram)
  deriving Inhabited

/-- What the CPU core does when an interrupt is requested (R238): its new registers and the bytes it stores, in order.
Nothing more is assumed, not even that it takes the interrupt (D31). -/
structure CpuReaction where
  regs : CpuRegs
  stores : List Host.Cell
  deriving Inhabited

/-- The external CPU core (R250): the two calls that change its state. Its other two, `interrupt_enabled` and
`mem_read`, are reads of `CpuRegs.interruptEnabled` and of the memory. -/
structure CpuCore where
  step : CpuRegs → Memory → CpuProgram
  requestInterrupt : CpuRegs → Memory → IntVector → CpuReaction
  deriving Inhabited

end Sys2Proof.Machine

namespace Sys2Proof

/-- `PORT0_RESET`, OPEN: any u8, constant for the run (R6, R30, D9). Assumption log 3. -/
opaque Config.port0Reset : Byte

/-- The CPU core the board is run with: any core that keeps R250's contract. Assumption log 2. -/
opaque Config.cpuCore : Machine.CpuCore

end Sys2Proof
end

