-- ==== Sys2Proof/Machine/State.lean ====
section
/-! DEFINITION. The machine's state as plain data, the reasons a step can stop, and the state right after reset
(spec/10_state.md R20 to R45, 00_scope.md R12, 60_exceptions.md R231, R250, R255). -/

namespace Sys2Proof.Machine

/-- The output events of R12. -/
inductive Event where
  /-- A call of the CPU core's `request_interrupt` with this vector. -/
  | intReq (v : IntVector)
  /-- One CPU step that reported `c` cycles. -/
  | cpuStep (c : Nat)
  /-- A one-shot playback request. -/
  | oneShot (i : SoundIndex)
  /-- Start of a looped playback. -/
  | loopStart (i : SoundIndex)
  /-- Stop of a looped playback. -/
  | loopStop (i : SoundIndex)
  /-- The whole framebuffer handed to the presentation sink. -/
  | present (fb : Framebuffer)
  deriving DecidableEq, Repr

/-- One operation the host issues: its word, and the operands that are not in the word (R97): the clock reading and the
keys that are down. -/
structure Request where
  word : OpWord
  now : Nat
  keysDown : List LogicalKey
  deriving DecidableEq, Repr

/-- Everything the spec gives the machine. A time value is a natural number of microseconds since an arbitrary host epoch
(R28). -/
structure State where
  /-- Whether the first `TICK` has run its step 1 (R23). -/
  started : Bool
  /-- The half whose interrupt is the next to be injected (R24). -/
  frameHalf : FrameHalf
  /-- The previous iteration's `now` (R25). -/
  lastTime : Nat
  /-- The time after which the next interrupt is due (R26). -/
  nextInterruptTime : Nat
  /-- Input latch of port 0; nothing writes it after reset (R30). -/
  port0 : Byte
  /-- Input latch of port 1 (R31). -/
  port1 : Byte
  /-- Input latch of port 2 (R32). -/
  port2 : Byte
  /-- The shift register (R33). -/
  shiftData : BitVec 16
  /-- The shift amount (R34). -/
  shiftAmount : BitVec 3
  /-- The value last written to port 3 (R35). -/
  latch3Prev : Byte
  /-- The value last written to port 5 (R36). -/
  latch5Prev : Byte
  /-- The framebuffer (R40). -/
  framebuffer : Framebuffer
  /-- The output trace, oldest event first (R12). -/
  out : List Event
  /-- The external CPU core's registers (R20, R22, R250). -/
  cpu : CpuRegs
  /-- The external CPU core's memory (R60, R63, R250). -/
  mem : Memory
  /-- The abstract audio sink's set of playing loops, by sound index (R255). -/
  loopActive : Vector Bool 8
  /-- The host clock reading of the current operation (R97, R252): the model's own field, assumption log 1. -/
  now : Nat
  /-- The keys that are down, as the current operation sees them (R97, R253): the model's own field, assumption log 1. -/
  keysDown : List LogicalKey
  /-- The operations the host has yet to issue, oldest first (R2, R257): the model's own field, assumption log 1. -/
  requests : List Request
  deriving DecidableEq, Repr

/-- The reasons to fault: there are none. The block raises no exception and no operation of it can fault (R230), so
`Fault` has no constructor. -/
inductive Fault where
  deriving DecidableEq, Repr

/-- The reasons to refuse (R231). Neither is a behaviour of the board, and both leave the state as it was. -/
inductive Refusal where
  /-- Raised by `TICK` step 0 when `started` is 1 and `now` is less than `last_time`, and records both (R134, R231,
  D23). Safe: the host must not decrease `now` (R252). -/
  | timeWentBackwards (now lastTime : Nat)
  /-- Raised by decoding a reserved operation word, and records the word (R98, R231, D32). Safe: a reserved word is no
  operation of the block. -/
  | reservedOperation (word : OpWord)
  /-- Raised by an arm of `exec` whose instruction has no meaning yet. Safe. No arm raises it. -/
  | notModelled (mnemonic : String)
  deriving DecidableEq, Repr

/-- What one operation answers. -/
abbrev Result := Host.Outcome State Fault Refusal

/-- The framebuffer with every cell of one colour. -/
def Framebuffer.filled (c : Colour) : Framebuffer := Vector.replicate 224 (Vector.replicate 256 c)

/-- The machine right after reset (R45, R270). The CPU core's registers and what an unlisted byte of memory reads as are
the model's choice (assumption logs 4 and 5); no operation is waiting (log 1). -/
def State.reset : State where
  started := false
  frameHalf := initialHalf
  lastTime := 0
  nextInterruptTime := 0
  port0 := Config.port0Reset
  port1 := port1Reset
  port2 := port2Reset
  shiftData := 0x0000#16
  shiftAmount := 0#3
  latch3Prev := 0x00#8
  latch5Prev := 0x00#8
  framebuffer := Framebuffer.filled colorOff
  out := []
  cpu := { accumulator := 0x00#8, interruptEnabled := false, internal := 0 }
  mem := []
  loopActive := Vector.replicate 8 false
  now := 0
  keysDown := []
  requests := []

end Sys2Proof.Machine
end

