-- ==== Sys2Proof/Machine/Ops.lean ====
section
/-! DEFINITION. The named operations over memory, the registers, the trace and the external CPU core, which the meanings
share (20_memory.md R63, R64, R70, R71; 42_peripheral_io.md R150 to R170; 60_exceptions.md R238, R250, R251). Interrupt
injection is the block's only part in an exception (R238): the block takes none. -/

namespace Sys2Proof.Machine

/-! CPU memory. -/

/-- What a byte of memory that nothing has written reads as. DESIGN CHOICE (assumption log 5), unsafe. -/
def unlistedByte : Byte := 0x00#8

/-- The byte at address `a` (`mem_read`, R250). -/
def readByte : Memory → Nat → Byte
  | [], _ => unlistedByte
  | (b, v) :: m, a => if a = b then v else readByte m a

/-- Memory with `v` at address `a`, in canonical form if it was. -/
def writeByte : Memory → Nat → Byte → Memory
  | [], a, v => if v = unlistedByte then [] else [(a, v)]
  | (b, u) :: m, a, v =>
    if a < b then (if v = unlistedByte then (b, u) :: m else (a, v) :: (b, u) :: m)
    else if a = b then (if v = unlistedByte then m else (a, v) :: m)
    else (b, u) :: writeByte m a v

/-- The canonical form: addresses strictly rising, no cell equal to what an unlisted address reads as. -/
def memoryWf : Memory → Bool
  | [] => true
  | (a, v) :: m => v != unlistedByte && m.all (fun c => decide (a < c.1)) && memoryWf m

/-- Memory after the bytes of `cells` are stored one after the other. -/
def storeCells (m : Memory) (cells : List Host.Cell) : Memory :=
  cells.foldl (fun m c => writeByte m c.1 c.2) m

/-- Memory after the bytes are placed from address `a` upwards. -/
def loadBytes (m : Memory) (a : Nat) : List Byte → Memory
  | [] => m
  | v :: vs => loadBytes (writeByte m a v) (a + 1) vs

/-- The video byte `VRAM[i]` (R11, R63). -/
def vramByte (m : Memory) (i : Nat) : Byte := readByte m (vramBase + i)

/-! The ROM, loaded by the host before the first `TICK` (R64, R254, R275). -/

/-- A ROM image in one of the two layouts of `ROM_LAYOUT` (R64, D30). -/
inductive RomImage where
  /-- `Contiguous`. -/
  | contiguous (image : List Byte)
  /-- `FourSegments`: the four 2 KB segments. -/
  | fourSegments (s0 s1 s2 s3 : List Byte)
  deriving DecidableEq, Repr

/-- Memory with the ROM image placed (R64). -/
def loadRom (m : Memory) : RomImage → Memory
  | .contiguous image => loadBytes m 0x0000 image
  | .fourSegments s0 s1 s2 s3 =>
    loadBytes (loadBytes (loadBytes (loadBytes m 0x0000 s0) 0x0800 s1) 0x1000 s2) 0x1800 s3

/-- The host loads a ROM image: no operation of the block (R254, R275). -/
def State.loadRom (rom : RomImage) (s : State) : State := { s with mem := Machine.loadRom s.mem rom }

/-! Updates of single registers, each under one name. -/

/-- `emit e` (R12). -/
def State.emit (e : Event) (s : State) : State := { s with out := s.out ++ [e] }

/-- The CPU core puts a byte in its accumulator (R251). -/
def State.setAccumulator (v : Byte) (s : State) : State := { s with cpu := { s.cpu with accumulator := v } }

/-- The CPU core's registers become `r`. -/
def State.setCpu (r : CpuRegs) (s : State) : State := { s with cpu := r }

/-- CPU memory becomes `m`. -/
def State.setMem (m : Memory) (s : State) : State := { s with mem := m }

/-- `shift_amount <- a`. -/
def State.setShiftAmount (a : BitVec 3) (s : State) : State := { s with shiftAmount := a }

/-- `shift_data <- d`. -/
def State.setShiftData (d : BitVec 16) (s : State) : State := { s with shiftData := d }

/-- `latch3_prev <- v`. -/
def State.setLatch3 (v : Byte) (s : State) : State := { s with latch3Prev := v }

/-- `latch5_prev <- v`. -/
def State.setLatch5 (v : Byte) (s : State) : State := { s with latch5Prev := v }

/-- `port1 <- v`. -/
def State.setPort1 (v : Byte) (s : State) : State := { s with port1 := v }

/-- `port2 <- v`. -/
def State.setPort2 (v : Byte) (s : State) : State := { s with port2 := v }

/-- `framebuffer <- fb`. -/
def State.setFramebuffer (fb : Framebuffer) (s : State) : State := { s with framebuffer := fb }

/-- The audio sink records that loop `i` plays, or does not (R255). -/
def State.setLoop (i : SoundIndex) (playing : Bool) (s : State) : State :=
  { s with loopActive := s.loopActive.set i.val playing }

/-- `last_time <- t`. -/
def State.setLastTime (t : Nat) (s : State) : State := { s with lastTime := t }

/-- `frame_half` toggles and `next_interrupt_time` moves on by one half-frame (R123). -/
def State.reschedule (s : State) : State :=
  { s with frameHalf := otherHalf s.frameHalf, nextInterruptTime := s.nextInterruptTime + halfFrameDuration }

/-- The clock starts at `now` (R121). -/
def State.startClock (s : State) : State :=
  { s with lastTime := s.now, nextInterruptTime := s.now + halfFrameDuration, started := true }

/-! Port operations, as the CPU core calls them. -/

/-- `PortRead(p)` (R155). -/
def portRead (s : State) (p : Byte) : Byte :=
  if p = 0#8 then s.port0
  else if p = 1#8 then s.port1
  else if p = 2#8 then s.port2
  else if p = 3#8 then shiftWindow s.shiftData s.shiftAmount
  else 0x00#8

/-- The effect of `OUT 2, v`: the low 3 bits of `v` become the shift amount (R156). -/
def writeShiftAmount (v : Byte) (s : State) : State := s.setShiftAmount (v.setWidth 3)

/-- Emit the one-shots `is`, in order. -/
def emitOneShots (is : List SoundIndex) (s : State) : State := { s with out := s.out ++ is.map Event.oneShot }

/-- The effect of `OUT 3, v` (R157). -/
def writeLatch3 (v : Byte) (s : State) : State :=
  (emitOneShots ((risingBits s.latch3Prev v).map latch3Sound) s).setLatch3 v

/-- The effect of `OUT 4, v` (R158). -/
def writeShiftData (v : Byte) (s : State) : State := s.setShiftData (shiftIn v s.shiftData)

/-- The effect of `OUT 5, v` (R159). -/
def writeLatch5 (v : Byte) (s : State) : State :=
  (emitOneShots ((risingBits s.latch5Prev v).map latch5Sound) s).setLatch5 v

/-- `PortWrite(p, v)` (R162). -/
def portWrite (p v : Byte) (s : State) : State :=
  if p = 2#8 then writeShiftAmount v s
  else if p = 3#8 then writeLatch3 v s
  else if p = 4#8 then writeShiftData v s
  else if p = 5#8 then writeLatch5 v s
  else s

/-- `handle_key_change(k, down)` (R170). -/
def handleKeyChange (k : LogicalKey) (down : Bool) (s : State) : State :=
  match keyPort k with
  | .port1 => s.setPort1 (setKeyBit (keyMask k) down s.port1)
  | .port2 => s.setPort2 (setKeyBit (keyMask k) down s.port2)

/-- One key's part of a poll: its latch bit becomes its key-down state (R210). -/
def pollKey (s : State) (k : LogicalKey) : State := handleKeyChange k (decide (k ∈ s.keysDown)) s

/-- One input polling pass over the ten keys (R210). -/
def pollKeys (s : State) : State := allKeys.foldl pollKey s

/-! The framebuffer decoder. -/

/-- Decode the video bytes `lo` to `hi - 1` (R195 to R198): a cell whose byte is in the range takes the colour of its
bit, every other cell keeps what it held. -/
def decodeBytes (lo hi : Nat) (m : Memory) (fb : Framebuffer) : Framebuffer :=
  framebufferOf fun cx cy =>
    if lo ≤ pixelByte cx cy ∧ pixelByte cx cy < hi then
      overlayColour cx cy ((vramByte m (pixelByte cx cy)).getLsbD (pixelBit cy))
    else cellAt fb cx cy

/-- `DECODE Top` (R196). -/
def decodeTopHalf (s : State) : State := s.setFramebuffer (decodeBytes 0 halfSplitByte s.mem s.framebuffer)

/-- `DECODE Bottom` (R197). -/
def decodeBottomHalf (s : State) : State := s.setFramebuffer (decodeBytes halfSplitByte vramSize s.mem s.framebuffer)

/-- `DECODE Full` (R198). -/
def decodeWhole (s : State) : State := s.setFramebuffer (decodeBytes 0 vramSize s.mem s.framebuffer)

/-- `DECODE h` for a half (R129). -/
def decodeHalf : FrameHalf → State → State
  | .top, s => decodeTopHalf s
  | .bottom, s => decodeBottomHalf s

/-! The external CPU core. -/

/-- The call `request_interrupt(v)`: the core's registers and stores are its own (R238, R250). -/
def requestInterrupt (core : CpuCore) (v : IntVector) (s : State) : State :=
  (s.setMem (storeCells s.mem (core.requestInterrupt s.cpu s.mem v).stores)).setCpu
    (core.requestInterrupt s.cpu s.mem v).regs

/-- Interrupt injection (R123, R238): the request with the vector of `frame_half`, then the toggle and the reschedule,
whether or not the core took it. -/
def injectInterrupt (core : CpuCore) (s : State) : State :=
  (requestInterrupt core (halfVector s.frameHalf) (s.emit (.intReq (halfVector s.frameHalf)))).reschedule

/-- Run what a CPU step does, inline, and record the step (R12, R127, R251). The answer's second part is the number of
cycles the step reported. -/
def runProgram : CpuProgram → State → State × Nat
  | .finish regs extra, s => ((s.setCpu regs).emit (.cpuStep (extra + 1)), extra + 1)
  | .portRead p go, s => runProgram (go (portRead s p)) s
  | .portWrite p v go, s => runProgram go (portWrite p v s)
  | .store a v go, s => runProgram go (s.setMem (writeByte s.mem a v))

/-- One call of the CPU core's `step` (R127, R250). -/
def cpuStep (core : CpuCore) (s : State) : State × Nat := runProgram (core.step s.cpu s.mem) s

/-- The loop of R127: CPU steps while `spent` is less than `budget`. Each step reports at least one cycle, so `budget`
rounds of `fuel` are enough. -/
def runCycles (core : CpuCore) : (fuel budget spent : Nat) → State → State
  | 0, _, _, s => s
  | fuel + 1, budget, spent, s =>
    if spent < budget then
      runCycles core fuel budget (spent + (cpuStep core s).2) (cpuStep core s).1
    else s

/-! Where the next operation comes from. -/

/-- The host issues its next operation: the word, and the state with the operands that are not in the word (R97). -/
def nextOperation (s : State) : Option (OpWord × State) :=
  match s.requests with
  | [] => none
  | r :: rest => some (r.word, { s with requests := rest, now := r.now, keysDown := r.keysDown })

/-- The state in which the next operation the host issues is the one of word `w`, at a clock reading no earlier than the
last one, with the keys as they are. -/
def issueFirst (w : OpWord) (s : State) : State :=
  { s with requests := { word := w, now := max s.now s.lastTime, keysDown := s.keysDown } :: s.requests }

end Sys2Proof.Machine
end

