-- ==== Sys2Proof/Machine/Clock.lean ====
section
/-! DEFINITION. The Machine Clock: `TICK`, one scheduler iteration, step by step (41_machine_clock.md R120 to R134). Every
step reads the one clock reading `now` (R120, D3). -/

namespace Sys2Proof.Machine

/-- Step 1, the first iteration only (R121). -/
def beginIteration (s : State) : State := if s.started then s else s.startClock

/-- An interrupt is due: `now` is strictly later than `next_interrupt_time` and the CPU core's interrupt-enable flag is
set (R123, D4). -/
def interruptDue (s : State) : Bool := decide (s.nextInterruptTime < s.now) && s.cpu.interruptEnabled

/-- Step 3: at most one interrupt (R123). -/
def interruptIfDue (core : CpuCore) (s : State) : State := if interruptDue s then injectInterrupt core s else s

/-- The elapsed time, capped (R125). -/
def elapsedTime (s : State) : Nat := min (s.now - s.lastTime) maxElapsed

/-- The cycle budget (R126, D5). -/
def cycleBudget (s : State) : Nat := elapsedTime s * clockHz / timeUnitsPerSecond

/-- Step 4: run the CPU until the budget is met or exceeded (R127). -/
def spendBudget (core : CpuCore) (s : State) : State := runCycles core (cycleBudget s) (cycleBudget s) 0 s

/-- Step 5: decode the half captured in step 2, present the whole buffer, poll the keys (R129). -/
def refreshAndPoll (redraw : FrameHalf) (s : State) : State :=
  pollKeys ((decodeHalf redraw s).emit (.present (decodeHalf redraw s).framebuffer))

/-- Steps 1 to 6; `redraw_half` is `frame_half` as step 1 leaves it (R27, R122, R130). -/
def iteration (core : CpuCore) (s : State) : State :=
  let begun := beginIteration s
  let ran := spendBudget core (interruptIfDue core begun)
  (refreshAndPoll begun.frameHalf ran).setLastTime s.now

/-- One scheduler iteration with a given CPU core, refused when time went backwards (R120, R134). -/
def tickWith (core : CpuCore) (s : State) : Result :=
  if s.started = true ∧ s.now < s.lastTime then .refused (.timeWentBackwards s.now s.lastTime)
  else .next (iteration core s)

/-- `TICK` (R120). -/
def execTick (s : State) : Result := tickWith Config.cpuCore s

end Sys2Proof.Machine
end

