-- ==== Sys2Proof/Machine/Decoder.lean ====
section
/-! DEFINITION. The framebuffer decodes (43_framebuffer_decoder.md R195 to R199). No event: `Present` is the Machine
Clock's (R129, R196). -/

namespace Sys2Proof.Machine

/-- `DECODE Top` (R196). -/
def execDecodeTop (s : State) : Result := .next (decodeTopHalf s)

/-- `DECODE Bottom` (R197). -/
def execDecodeBottom (s : State) : Result := .next (decodeBottomHalf s)

/-- `DECODE Full` (R198). -/
def execDecodeFull (s : State) : Result := .next (decodeWhole s)

end Sys2Proof.Machine
end

