-- ==== Sys2Proof/Machine/KeyInput.lean ====
section
/-! DEFINITION. The key events `KEY k, d` (42_peripheral_io.md R170; 44_input_mapper.md R212 to R221) and the polling pass
`POLL` (R210). -/

namespace Sys2Proof.Machine

/-- `KEY P1_START, d` (R212). -/
def execKeyP1Start (down : Bool) (s : State) : Result := .next (handleKeyChange .p1Start down s)

/-- `KEY P1_SHOOT, d` (R213). -/
def execKeyP1Shoot (down : Bool) (s : State) : Result := .next (handleKeyChange .p1Shoot down s)

/-- `KEY P1_LEFT, d` (R214). -/
def execKeyP1Left (down : Bool) (s : State) : Result := .next (handleKeyChange .p1Left down s)

/-- `KEY P1_RIGHT, d` (R215). -/
def execKeyP1Right (down : Bool) (s : State) : Result := .next (handleKeyChange .p1Right down s)

/-- `KEY P2_START, d` (R216). -/
def execKeyP2Start (down : Bool) (s : State) : Result := .next (handleKeyChange .p2Start down s)

/-- `KEY P2_SHOOT, d` (R217). -/
def execKeyP2Shoot (down : Bool) (s : State) : Result := .next (handleKeyChange .p2Shoot down s)

/-- `KEY P2_LEFT, d` (R218). -/
def execKeyP2Left (down : Bool) (s : State) : Result := .next (handleKeyChange .p2Left down s)

/-- `KEY P2_RIGHT, d` (R219). -/
def execKeyP2Right (down : Bool) (s : State) : Result := .next (handleKeyChange .p2Right down s)

/-- `KEY COIN, d` (R220). -/
def execKeyCoin (down : Bool) (s : State) : Result := .next (handleKeyChange .coin down s)

/-- `KEY TILT, d` (R221). -/
def execKeyTilt (down : Bool) (s : State) : Result := .next (handleKeyChange .tilt down s)

/-- `POLL` (R210). -/
def execPoll (s : State) : Result := .next (pollKeys s)

end Sys2Proof.Machine
end

