-- ==== Sys2Proof/Machine/PortIn.lean ====
section
/-! DEFINITION. The port reads `IN p` (42_peripheral_io.md R150 to R155). The block's state is not changed; the CPU core
puts the result in its accumulator (R20, R251). -/

namespace Sys2Proof.Machine

/-- An unmapped read returns 0x00 (R71, R154). -/
def readUnmapped (s : State) : Result := .next (s.setAccumulator 0x00#8)

/-- `IN 0` (R150). -/
def execIn0 (s : State) : Result := .next (s.setAccumulator s.port0)

/-- `IN 1` (R151). -/
def execIn1 (s : State) : Result := .next (s.setAccumulator s.port1)

/-- `IN 2` (R152). -/
def execIn2 (s : State) : Result := .next (s.setAccumulator s.port2)

/-- `IN 3` (R153). -/
def execIn3 (s : State) : Result := .next (s.setAccumulator (shiftWindow s.shiftData s.shiftAmount))

/-- `IN p`, p in 4 to 7 (R154). -/
def execInUnmapped4 (_p : Byte) (s : State) : Result := readUnmapped s

/-- `IN p`, p in 8 to 15 (R154). -/
def execInUnmapped8 (_p : Byte) (s : State) : Result := readUnmapped s

/-- `IN p`, p in 16 to 31 (R154). -/
def execInUnmapped16 (_p : Byte) (s : State) : Result := readUnmapped s

/-- `IN p`, p in 32 to 63 (R154). -/
def execInUnmapped32 (_p : Byte) (s : State) : Result := readUnmapped s

/-- `IN p`, p in 64 to 127 (R154). -/
def execInUnmapped64 (_p : Byte) (s : State) : Result := readUnmapped s

/-- `IN p`, p in 128 to 255 (R154). -/
def execInUnmapped128 (_p : Byte) (s : State) : Result := readUnmapped s

end Sys2Proof.Machine
end

