-- ==== Sys2Proof/Machine/PortOut.lean ====
section
/-! DEFINITION. The port writes `OUT p, v` (42_peripheral_io.md R156 to R162). -/

namespace Sys2Proof.Machine

/-- An unmapped write is ignored (R71, R160). -/
def writeUnmapped (s : State) : Result := .next s

/-- `OUT 2, v` (R156). -/
def execOut2 (v : Byte) (s : State) : Result := .next (writeShiftAmount v s)

/-- `OUT 3, v` (R157). -/
def execOut3 (v : Byte) (s : State) : Result := .next (writeLatch3 v s)

/-- `OUT 4, v` (R158). -/
def execOut4 (v : Byte) (s : State) : Result := .next (writeShiftData v s)

/-- `OUT 5, v` (R159). -/
def execOut5 (v : Byte) (s : State) : Result := .next (writeLatch5 v s)

/-- `OUT p, v`, p in 0 to 1 (R160). -/
def execOutUnmapped0 (_p _v : Byte) (s : State) : Result := writeUnmapped s

/-- `OUT p, v`, p in 6 to 7 (R160). -/
def execOutUnmapped6 (_p _v : Byte) (s : State) : Result := writeUnmapped s

/-- `OUT p, v`, p in 8 to 15 (R160). -/
def execOutUnmapped8 (_p _v : Byte) (s : State) : Result := writeUnmapped s

/-- `OUT p, v`, p in 16 to 31 (R160). -/
def execOutUnmapped16 (_p _v : Byte) (s : State) : Result := writeUnmapped s

/-- `OUT p, v`, p in 32 to 63 (R160). -/
def execOutUnmapped32 (_p _v : Byte) (s : State) : Result := writeUnmapped s

/-- `OUT p, v`, p in 64 to 127 (R160). -/
def execOutUnmapped64 (_p _v : Byte) (s : State) : Result := writeUnmapped s

/-- `OUT p, v`, p in 128 to 255 (R160). -/
def execOutUnmapped128 (_p _v : Byte) (s : State) : Result := writeUnmapped s

end Sys2Proof.Machine
end

