-- ==== Sys2Proof/Machine/ResetOp.lean ====
section
/-! DEFINITION. `RESET` (70_reset_and_hazards.md R270 to R273). -/

namespace Sys2Proof.Machine

/-- Every piece of block state, and the trace, at its reset value (R45, R270); what reset does not define, the CPU core,
its memory, the audio sink and the host's inputs, is left as it is (R272, R273; assumption log 7). -/
def resetBlock (s : State) : State :=
  { State.reset with
    cpu := s.cpu, mem := s.mem, loopActive := s.loopActive, now := s.now, keysDown := s.keysDown, requests := s.requests }

/-- `RESET` (R270). -/
def execReset (s : State) : Result := .next (resetBlock s)

end Sys2Proof.Machine
end

