-- ==== Sys2Proof/Machine/Sound.lean ====
section
/-! DEFINITION. The looped-playback capability (42_peripheral_io.md R165 to R167), with the abstract audio sink's
reaction (60_exceptions.md R255). -/

namespace Sys2Proof.Machine

/-- `LOOPSTART i` (R165, R255). -/
def execLoopStart (i : SoundIndex) (s : State) : Result := .next ((s.emit (.loopStart i)).setLoop i true)

/-- `LOOPSTOP i` (R166, R255). -/
def execLoopStop (i : SoundIndex) (s : State) : Result := .next ((s.emit (.loopStop i)).setLoop i false)

end Sys2Proof.Machine
end

