-- ==== Sys2Proof/Machine/Dispatch.lean ====
section
/-! DEFINITION. `exec`: one arm per operation, each one call of its meaning. -/

namespace Sys2Proof.Machine

def exec (i : Instr) (s : State) : Host.Outcome State Fault Refusal :=
  match i with
  | .in0 => Sys2Proof.Machine.execIn0 s
  | .in1 => Sys2Proof.Machine.execIn1 s
  | .in2 => Sys2Proof.Machine.execIn2 s
  | .in3 => Sys2Proof.Machine.execIn3 s
  | .inUnmapped4 p => Sys2Proof.Machine.execInUnmapped4 p s
  | .inUnmapped8 p => Sys2Proof.Machine.execInUnmapped8 p s
  | .inUnmapped16 p => Sys2Proof.Machine.execInUnmapped16 p s
  | .inUnmapped32 p => Sys2Proof.Machine.execInUnmapped32 p s
  | .inUnmapped64 p => Sys2Proof.Machine.execInUnmapped64 p s
  | .inUnmapped128 p => Sys2Proof.Machine.execInUnmapped128 p s
  | .out2 v => Sys2Proof.Machine.execOut2 v s
  | .out3 v => Sys2Proof.Machine.execOut3 v s
  | .out4 v => Sys2Proof.Machine.execOut4 v s
  | .out5 v => Sys2Proof.Machine.execOut5 v s
  | .outUnmapped0 p v => Sys2Proof.Machine.execOutUnmapped0 p v s
  | .outUnmapped6 p v => Sys2Proof.Machine.execOutUnmapped6 p v s
  | .outUnmapped8 p v => Sys2Proof.Machine.execOutUnmapped8 p v s
  | .outUnmapped16 p v => Sys2Proof.Machine.execOutUnmapped16 p v s
  | .outUnmapped32 p v => Sys2Proof.Machine.execOutUnmapped32 p v s
  | .outUnmapped64 p v => Sys2Proof.Machine.execOutUnmapped64 p v s
  | .outUnmapped128 p v => Sys2Proof.Machine.execOutUnmapped128 p v s
  | .keyP1Start down => Sys2Proof.Machine.execKeyP1Start down s
  | .keyP1Shoot down => Sys2Proof.Machine.execKeyP1Shoot down s
  | .keyP1Left down => Sys2Proof.Machine.execKeyP1Left down s
  | .keyP1Right down => Sys2Proof.Machine.execKeyP1Right down s
  | .keyP2Start down => Sys2Proof.Machine.execKeyP2Start down s
  | .keyP2Shoot down => Sys2Proof.Machine.execKeyP2Shoot down s
  | .keyP2Left down => Sys2Proof.Machine.execKeyP2Left down s
  | .keyP2Right down => Sys2Proof.Machine.execKeyP2Right down s
  | .keyCoin down => Sys2Proof.Machine.execKeyCoin down s
  | .keyTilt down => Sys2Proof.Machine.execKeyTilt down s
  | .tick => Sys2Proof.Machine.execTick s
  | .decodeTop => Sys2Proof.Machine.execDecodeTop s
  | .decodeBottom => Sys2Proof.Machine.execDecodeBottom s
  | .decodeFull => Sys2Proof.Machine.execDecodeFull s
  | .loopStart n => Sys2Proof.Machine.execLoopStart n s
  | .loopStop n => Sys2Proof.Machine.execLoopStop n s
  | .poll => Sys2Proof.Machine.execPoll s
  | .reset => Sys2Proof.Machine.execReset s

end Sys2Proof.Machine
end

