-- ==== Sys2Proof/Machine/Step.lean ====
section
/-! DEFINITION. One step of the machine: the host issues its next operation, the word is decoded, and the operation runs
(00_scope.md R2, R14; 30_encoding.md R97, R98). There is no program counter (R21). -/

namespace Sys2Proof.Machine

/-- One step. With no operation waiting nothing triggers the block and nothing changes (R136; assumption log 8). A
reserved word is refused (R98, R231). -/
def step (s : State) : Host.Outcome State Fault Refusal :=
  match nextOperation s with
  | none => .next s
  | some (w, t) =>
    match decode w with
    | .ok i => exec i t
    | .error _ => .refused (.reservedOperation w)

/-- The state in which the next operation the host issues is the one whose word is `w` (assumption log 1). -/
def State.withFetchWord (s : State) (_nbits w : Nat) : State := issueFirst (tableWord w) s

end Sys2Proof.Machine
end

