-- ==== Sys2Proof/Safety.lean ====
section
/-! DEFINITION. The words in which claims are stated: what a trace of events shows, what one operation may change, and
the invariants of R44. -/

namespace Sys2Proof

open Machine

/-! What a trace shows. -/

/-- The vector of an interrupt request. -/
def eventVector : Event → Option IntVector
  | .intReq v => some v
  | .cpuStep _ | .oneShot _ | .loopStart _ | .loopStop _ | .present _ => none

/-- The cycles of a CPU step. -/
def eventCycles : Event → Option Nat
  | .cpuStep c => some c
  | .intReq _ | .oneShot _ | .loopStart _ | .loopStop _ | .present _ => none

/-- The vectors of the interrupts requested, in order. -/
def intVectors (es : List Event) : List IntVector := es.filterMap eventVector

/-- The cycles of the CPU steps taken, in order. -/
def cpuCycles (es : List Event) : List Nat := es.filterMap eventCycles

/-- The first `n` terms of the sequence `VEC_TOP`, `VEC_BOTTOM`, `VEC_TOP`, ... (R131). -/
def alternatingVectors (n : Nat) : List IntVector :=
  (List.range n).map fun k => if k % 2 = 0 then vecTop else vecBottom

/-- An event that comes from running the CPU: a one-shot of a port write, or the record of a step. -/
def isCpuEvent : Event → Bool
  | .cpuStep _ | .oneShot _ => true
  | .intReq _ | .loopStart _ | .loopStop _ | .present _ => false

/-- A start or stop of a looped playback. -/
def isLoopEvent : Event → Bool
  | .loopStart _ | .loopStop _ => true
  | .intReq _ | .cpuStep _ | .oneShot _ | .present _ => false

/-- Zero or more groups, each of any number of one-shots and then one CPU step (R131). -/
def CpuGroups (es : List Event) : Prop :=
  (∀ e ∈ es, isCpuEvent e = true) ∧ (es = [] ∨ ∃ front c, es = front ++ [.cpuStep c])

/-! What one operation may change. -/

/-- `t` is `s` but for what a CPU step may change: the CPU core and its memory, the registers behind the write ports, and
the trace (R250). -/
def OnlyCpuReach (s t : State) : Prop :=
  t = { s with
    cpu := t.cpu, mem := t.mem, shiftData := t.shiftData, shiftAmount := t.shiftAmount, latch3Prev := t.latch3Prev,
    latch5Prev := t.latch5Prev, out := t.out }

/-- The loop of R127, as the rule writes it: while `spent` is less than `budget`, one CPU step, whose cycles are added to
`spent`. It relates the state before the loop to the state after it. -/
inductive CpuRun (core : CpuCore) (budget : Nat) : (spent : Nat) → State → State → Prop where
  /-- The budget is met: the loop ends. -/
  | done {spent : Nat} {s : State} (h : budget ≤ spent) : CpuRun core budget spent s s
  /-- It is not: one step, and the loop goes on. -/
  | step {spent : Nat} {s t : State} (h : spent < budget)
      (rest : CpuRun core budget (spent + (cpuStep core s).2) (cpuStep core s).1 t) : CpuRun core budget spent s t

/-- The value that storing `cells` in order leaves at address `a`: the last one stored there, else `v`. -/
def lastStored (cells : List Host.Cell) (a : Nat) (v : Byte) : Byte :=
  cells.foldl (fun u c => if c.1 = a then c.2 else u) v

/-- The operation answers, for every state, that state with the byte `r s` in the CPU core's accumulator. -/
def ReadsPort (i : Instr) (r : State → Byte) : Prop :=
  ∀ s, exec i s = .next { s with cpu := { s.cpu with accumulator := r s } }

/-- The operation sets bit `n` of `port1` to `down` and changes nothing else. -/
def SetsPort1Bit (i : Instr) (n : Nat) (down : Bool) : Prop :=
  ∀ s, ∃ t, exec i s = .next t ∧ t = { s with port1 := t.port1 } ∧
    ∀ k, k < 8 → t.port1.getLsbD k = if k = n then down else s.port1.getLsbD k

/-- The operation sets bit `n` of `port2` to `down` and changes nothing else. -/
def SetsPort2Bit (i : Instr) (n : Nat) (down : Bool) : Prop :=
  ∀ s, ∃ t, exec i s = .next t ∧ t = { s with port2 := t.port2 } ∧
    ∀ k, k < 8 → t.port2.getLsbD k = if k = n then down else s.port2.getLsbD k

/-- `f` is `g` with the video bytes `lo` to `hi - 1` of memory `m` decoded, byte by byte as in R195: `y = n / 32`,
`base_x = (n mod 32) * 8`, and for each bit `b` the cell `(y, 255 - (base_x + b))` takes the colour of that bit. The
cells of the other bytes are those of `g`. -/
def DecodedInto (lo hi : Nat) (m : Memory) (g f : Framebuffer) : Prop :=
  ∀ (n b : Nat) (cx : Fin 224) (cy : Fin 256), n < 7168 → b < 8 → cx.val = n / 32 →
    cy.val = 255 - (n % 32 * 8 + b) →
    cellAt f cx cy =
      if lo ≤ n ∧ n < hi then overlayColour cx cy ((readByte m (0x2400 + n)).getLsbD b) else cellAt g cx cy

/-- The poll's effect on the latches (R210, R211): the ten assigned bits are the key-down state, the others stay. -/
def PolledLatches (s t : State) : Prop :=
  (t.port1.getLsbD 0 = decide (LogicalKey.coin ∈ s.keysDown) ∧
    t.port1.getLsbD 1 = decide (LogicalKey.p2Start ∈ s.keysDown) ∧
    t.port1.getLsbD 2 = decide (LogicalKey.p1Start ∈ s.keysDown) ∧
    t.port1.getLsbD 3 = s.port1.getLsbD 3 ∧
    t.port1.getLsbD 4 = decide (LogicalKey.p1Shoot ∈ s.keysDown) ∧
    t.port1.getLsbD 5 = decide (LogicalKey.p1Left ∈ s.keysDown) ∧
    t.port1.getLsbD 6 = decide (LogicalKey.p1Right ∈ s.keysDown) ∧
    t.port1.getLsbD 7 = s.port1.getLsbD 7) ∧
  (t.port2.getLsbD 0 = s.port2.getLsbD 0 ∧
    t.port2.getLsbD 1 = s.port2.getLsbD 1 ∧
    t.port2.getLsbD 2 = decide (LogicalKey.tilt ∈ s.keysDown) ∧
    t.port2.getLsbD 3 = s.port2.getLsbD 3 ∧
    t.port2.getLsbD 4 = decide (LogicalKey.p2Shoot ∈ s.keysDown) ∧
    t.port2.getLsbD 5 = decide (LogicalKey.p2Left ∈ s.keysDown) ∧
    t.port2.getLsbD 6 = decide (LogicalKey.p2Right ∈ s.keysDown) ∧
    t.port2.getLsbD 7 = s.port2.getLsbD 7)

/-- One of the four colours (R44 item 5, R104). -/
def LegalColour (c : Colour) : Prop := c = colorOff ∨ c = colorWhite ∨ c = colorRed ∨ c = colorGreen

/-- The invariants of R44, with the canonical form of memory. Items 1, 2 and 7 of R44 hold by the types. -/
structure Inv (s : State) : Prop where
  /-- The model's own: memory is in canonical form. -/
  memory : memoryWf s.mem = true
  /-- Item 6, port 0. -/
  port0 : s.port0 = Config.port0Reset
  /-- Item 6, the unassigned bits 3 and 7 of port 1. -/
  port1 : s.port1 &&& 0x88#8 = 0#8
  /-- Item 6, the unassigned bits 0, 1, 3 and 7 of port 2. -/
  port2 : s.port2 &&& 0x8B#8 = 0#8
  /-- Item 5. -/
  colours : ∀ cx cy, LegalColour (cellAt s.framebuffer cx cy)
  /-- The vectors alternate, starting with Top (R131). -/
  vectors : intVectors s.out = alternatingVectors (intVectors s.out).length
  /-- Item 3. -/
  parity : s.frameHalf = .top ↔ (intVectors s.out).length % 2 = 0
  /-- Before the first `TICK` no interrupt has been requested. -/
  idle : s.started = false → intVectors s.out = []
  /-- Item 4, for some time `t0`, which is that of the first `TICK` (R121). State does not keep `t0`, so this bounds the
  due time from below; the law that fixes it step by step is `Obligations.DueTimeCountsInterrupts`. -/
  schedule : s.started = true → ∃ t0, s.nextInterruptTime = t0 + (1 + (intVectors s.out).length) * 8333

end Sys2Proof
end

