-- ==== Sys2Proof/Certificates/Slice0/Obligations.lean ====
section
/-! DEFINITION. The statements for the provers, from the numbered rules of spec/. Where a clause rests on a decision the
spec marks as its own (spec/92_eei_decisions.md), the docstring names it. Every number is the spec's: times in
microseconds, port words as spec/95_test_vectors.md writes them. -/

section

open Sys2Proof Sys2Proof.Machine

/-! Port reads. -/

/-- R150, R151, R152. `IN 0`, `IN 1` and `IN 2` return the three input latches and change no state of the block. That the
result of an `IN` issued by itself stands in the CPU core's accumulator is the model's deduction from R155 and R251
(assumption log 9). While port 0 holds its reset value, `IN 0` returns it. -/
def Obligations.InputLatchReads : Prop :=
  (decode 0x00000#20 = .ok .in0 ∧ decode 0x00100#20 = .ok .in1 ∧ decode 0x00200#20 = .ok .in2) ∧
  ReadsPort .in0 (fun s => s.port0) ∧ ReadsPort .in1 (fun s => s.port1) ∧ ReadsPort .in2 (fun s => s.port2) ∧
  ∀ s, s.port0 = Config.port0Reset →
    exec .in0 s = .next { s with cpu := { s.cpu with accumulator := Config.port0Reset } }

/-- R153. `IN 3` returns `(shift_data >> (8 - shift_amount)) & 0xFF`, in bits `shift_data[15 - a : 8 - a]`, and changes
nothing else. That the result stands in the CPU core's accumulator is the model's deduction from R155 and R251
(assumption log 9). -/
def Obligations.ShiftWindowRead : Prop :=
  decode 0x00300#20 = .ok .in3 ∧
  ∀ s, ∃ t, exec .in3 s = .next t ∧
    t = { s with cpu := { s.cpu with accumulator := t.cpu.accumulator } } ∧
    t.cpu.accumulator.toNat = (s.shiftData.toNat >>> (8 - s.shiftAmount.toNat)) % 256 ∧
    ∀ k, k < 8 → t.cpu.accumulator.getLsbD k = s.shiftData.getLsbD (8 - s.shiftAmount.toNat + k)

/-- R154. Every `IN p` for p in 4 to 255 returns 0x00 and changes nothing else, in each of the six rows of the table. That
the result stands in the CPU core's accumulator is the model's deduction from R155 and R251 (assumption log 9). -/
def Obligations.UnmappedReadsReturnZero : Prop :=
  (∀ (p : Byte) (s : State), 4 ≤ p.toNat → ∃ i, decode (p.setWidth 20 <<< 8) = .ok i ∧
    exec i s = .next { s with cpu := { s.cpu with accumulator := 0x00#8 } }) ∧
  ∀ p : Byte,
    ReadsPort (.inUnmapped4 p) (fun _ => 0x00#8) ∧ ReadsPort (.inUnmapped8 p) (fun _ => 0x00#8) ∧
    ReadsPort (.inUnmapped16 p) (fun _ => 0x00#8) ∧ ReadsPort (.inUnmapped32 p) (fun _ => 0x00#8) ∧
    ReadsPort (.inUnmapped64 p) (fun _ => 0x00#8) ∧ ReadsPort (.inUnmapped128 p) (fun _ => 0x00#8)

/-- R155 (derived by the spec from R150 to R154). The word of `IN p`, for every p, runs a read of exactly the port map:
latches at 0, 1 and 2, the shift window at 3, and 0 everywhere else. The accumulator of an `IN` issued by itself is
assumption log 9 (deduced from R155 and R251). -/
def Obligations.EveryPortReadWord : Prop :=
  ∀ (p : Byte) (s : State), ∃ i r, decode (p.setWidth 20 <<< 8) = .ok i ∧ portRead s p = r ∧
    exec i s = .next { s with cpu := { s.cpu with accumulator := r } } ∧
    (p.toNat = 0 → r = s.port0) ∧ (p.toNat = 1 → r = s.port1) ∧ (p.toNat = 2 → r = s.port2) ∧
    (p.toNat = 3 → r.toNat = (s.shiftData.toNat >>> (8 - s.shiftAmount.toNat)) % 256) ∧
    (3 < p.toNat → r = 0x00#8)

/-! Port writes. -/

/-- R156. `OUT 2, v` sets `shift_amount` to `v & 0x7` and changes nothing else; a second write of the same value changes
nothing. -/
def Obligations.ShiftAmountWrite : Prop :=
  ∀ v : Byte, decode (0x10200#20 ||| v.setWidth 20) = .ok (.out2 v) ∧
    ∀ s, ∃ t, exec (.out2 v) s = .next t ∧ t = { s with shiftAmount := t.shiftAmount } ∧
      t.shiftAmount.toNat = v.toNat % 8 ∧ exec (.out2 v) t = .next t

/-- R157; ascending order is the spec's decision D13. `OUT 3, v` stores `v` in `latch3_prev` and dispatches, in ascending
order and once each, the sounds 0 to 3 whose bit was 0 there and is 1 in `v`. -/
def Obligations.SoundLatch3Write : Prop :=
  ∀ v : Byte, decode (0x10300#20 ||| v.setWidth 20) = .ok (.out3 v) ∧
    ∀ s, ∃ (t : State) (is : List SoundIndex), exec (.out3 v) s = .next t ∧
      t = { s with latch3Prev := v, out := s.out ++ is.map Event.oneShot } ∧ is.Pairwise (· < ·) ∧
      ∀ i : SoundIndex, i ∈ is ↔
        i.val < 4 ∧ s.latch3Prev.getLsbD i.val = false ∧ v.getLsbD i.val = true

/-- R158. `OUT 4, v` makes `v` the high byte of the shift register and the old high byte its low byte, and changes
nothing else; after two writes `v1`, `v2` it holds `(v2 << 8) | v1` whatever it held before. -/
def Obligations.ShiftDataWrite : Prop :=
  (∀ v : Byte, decode (0x10400#20 ||| v.setWidth 20) = .ok (.out4 v) ∧
    ∀ s, ∃ t, exec (.out4 v) s = .next t ∧ t = { s with shiftData := t.shiftData } ∧
      t.shiftData.toNat = v.toNat * 256 + s.shiftData.toNat / 256) ∧
  ∀ (v1 v2 : Byte) (s : State), ∃ t u, exec (.out4 v1) s = .next t ∧ exec (.out4 v2) t = .next u ∧
    u.shiftData.toNat = v2.toNat * 256 + v1.toNat

/-- R159; ascending order is the spec's decision D13. `OUT 5, v` stores `v` in `latch5_prev` and dispatches, in ascending
order and once each, the sounds 4 to 7 whose bit (index less 4) was 0 there and is 1 in `v`. -/
def Obligations.SoundLatch5Write : Prop :=
  ∀ v : Byte, decode (0x10500#20 ||| v.setWidth 20) = .ok (.out5 v) ∧
    ∀ s, ∃ (t : State) (is : List SoundIndex), exec (.out5 v) s = .next t ∧
      t = { s with latch5Prev := v, out := s.out ++ is.map Event.oneShot } ∧ is.Pairwise (· < ·) ∧
      ∀ i : SoundIndex, i ∈ is ↔
        4 ≤ i.val ∧ s.latch5Prev.getLsbD (i.val - 4) = false ∧ v.getLsbD (i.val - 4) = true

/-- R160. Every `OUT p, v` for p in 0 to 1 or 6 to 255 changes nothing, in each of the seven rows of the table. -/
def Obligations.UnmappedWritesDoNothing : Prop :=
  (∀ (p v : Byte) (s : State), p.toNat < 2 ∨ 5 < p.toNat →
    ∃ i, decode (0x10000#20 ||| p.setWidth 20 <<< 8 ||| v.setWidth 20) = .ok i ∧ exec i s = .next s) ∧
  ∀ (p v : Byte) (s : State),
    exec (.outUnmapped0 p v) s = .next s ∧ exec (.outUnmapped6 p v) s = .next s ∧
    exec (.outUnmapped8 p v) s = .next s ∧ exec (.outUnmapped16 p v) s = .next s ∧
    exec (.outUnmapped32 p v) s = .next s ∧ exec (.outUnmapped64 p v) s = .next s ∧
    exec (.outUnmapped128 p v) s = .next s

/-- R162 (derived by the spec from R156 to R160). The word of `OUT p, v`, for every p and v, runs exactly what the
capability handed to the CPU core does: ports 2 to 5 as their own operations, every other port nothing. -/
def Obligations.EveryPortWriteWord : Prop :=
  ∀ (p v : Byte) (s : State), ∃ i,
    decode (0x10000#20 ||| p.setWidth 20 <<< 8 ||| v.setWidth 20) = .ok i ∧ exec i s = .next (portWrite p v s) ∧
    (p.toNat = 2 → i = .out2 v) ∧ (p.toNat = 3 → i = .out3 v) ∧ (p.toNat = 4 → i = .out4 v) ∧
    (p.toNat = 5 → i = .out5 v) ∧ (p.toNat < 2 ∨ 5 < p.toNat → portWrite p v s = s)

/-- R161. A write to port 3 or port 5 dispatches each sound of that port exactly once when its bit goes from 0 to 1 and
not at all when it stays or falls: the sounds are the bits of `(v & ~prev) & 0x0F`. The whole byte is stored, the other
latch is not touched, and the same write again dispatches nothing. -/
def Obligations.SoundEdgesDispatchOnce : Prop :=
  ∀ (v : Byte) (s : State), ∃ (t u : State) (is js : List SoundIndex),
    exec (.out3 v) s = .next t ∧ exec (.out5 v) s = .next u ∧
    t.out = s.out ++ is.map Event.oneShot ∧ u.out = s.out ++ js.map Event.oneShot ∧
    (∀ b : Fin 4,
      is.count ⟨b.val, by omega⟩ = (if ((v &&& ~~~s.latch3Prev) &&& 0x0F#8).getLsbD b.val then 1 else 0) ∧
      js.count ⟨b.val + 4, by omega⟩ = (if ((v &&& ~~~s.latch5Prev) &&& 0x0F#8).getLsbD b.val then 1 else 0)) ∧
    (∀ i ∈ is, i.val < 4) ∧ (∀ j ∈ js, 4 ≤ j.val) ∧
    (t.latch3Prev = v ∧ t.latch5Prev = s.latch5Prev) ∧ (u.latch5Prev = v ∧ u.latch3Prev = s.latch3Prev) ∧
    exec (.out3 v) t = .next t ∧ exec (.out5 v) u = .next u

/-- The laws 1 to 4 of R163 (derived by the spec from R153, R156, R158): the left-shift form of the window; the two-byte
law after `OUT 4, lo; OUT 4, hi; OUT 2, a`; bit 0 of the shift register cannot be seen; one write after a zero register.
The value of an `IN 3` issued by itself is read from the CPU core's accumulator: the model's deduction from R155 and R251
(assumption log 9). -/
def Obligations.ShiftRegisterLaws : Prop :=
  (∀ s, ∃ t, exec .in3 s = .next t ∧
    t.cpu.accumulator.toNat = ((s.shiftData.toNat <<< s.shiftAmount.toNat) >>> 8) % 256) ∧
  (∀ (lo hi a : Byte) (s : State), a.toNat < 8 → ∃ t1 t2 t3 t4,
    exec (.out4 lo) s = .next t1 ∧ exec (.out4 hi) t1 = .next t2 ∧ exec (.out2 a) t2 = .next t3 ∧
    exec .in3 t3 = .next t4 ∧
    t4.cpu.accumulator.toNat = ((hi.toNat <<< a.toNat) ||| (lo.toNat >>> (8 - a.toNat))) % 256) ∧
  (∀ s s' : State, s.shiftAmount = s'.shiftAmount → (∀ k, 0 < k → s.shiftData.getLsbD k = s'.shiftData.getLsbD k) →
    ∃ t t', exec .in3 s = .next t ∧ exec .in3 s' = .next t' ∧ t.cpu.accumulator = t'.cpu.accumulator) ∧
  (∀ (v : Byte) (s : State), s.shiftData = 0#16 → ∃ t u, exec (.out4 v) s = .next t ∧
    t.shiftData.toNat = v.toNat <<< 8 ∧ exec .in3 t = .next u ∧
    u.cpu.accumulator.toNat = (v.toNat <<< s.shiftAmount.toNat) % 256)

/-- R70 (derived by the spec): which writes may be repeated. `OUT 2`, `KEY`, `DECODE` and `POLL` done twice are done
once. `OUT 4` is not: the first leaves the old high byte below the new one, the second the byte in both halves, which
differ unless the old high byte was that byte. -/
def Obligations.RepeatedOperations : Prop :=
  (∀ i : Instr, i ∈ ([.decodeTop, .decodeBottom, .decodeFull, .poll] : List Instr) ∨ (∃ v, i = .out2 v) ∨
      (∃ d, i ∈ ([.keyP1Start d, .keyP1Shoot d, .keyP1Left d, .keyP1Right d, .keyP2Start d, .keyP2Shoot d, .keyP2Left d,
        .keyP2Right d, .keyCoin d, .keyTilt d] : List Instr)) →
    ∀ s, ∃ t, exec i s = .next t ∧ exec i t = .next t) ∧
  ∀ (v : Byte) (s : State), ∃ t u, exec (.out4 v) s = .next t ∧ exec (.out4 v) t = .next u ∧
    t.shiftData.toNat = v.toNat * 256 + s.shiftData.toNat / 256 ∧ u.shiftData.toNat = v.toNat * 256 + v.toNat ∧
    (s.shiftData.toNat / 256 ≠ v.toNat → u.shiftData ≠ t.shiftData)

/-! Looped playback. -/

/-- R165. `LOOPSTART i` emits `LoopStart(i)` and writes no state of the controller; the audio sink then plays loop `i`,
and starting it again changes nothing in the sink. -/
def Obligations.LoopStartEmits : Prop :=
  ∀ i : SoundIndex, decode (0x80000#20 ||| BitVec.ofNat 20 i.val) = .ok (.loopStart i) ∧
    ∀ s, ∃ t, exec (.loopStart i) s = .next t ∧
      t = { s with out := s.out ++ [.loopStart i], loopActive := t.loopActive } ∧ t.loopActive[i.val] = true ∧
      ∃ u, exec (.loopStart i) t = .next u ∧ u.loopActive = t.loopActive

/-- R166. `LOOPSTOP i` emits `LoopStop(i)` and writes no state of the controller; the audio sink then does not play loop
`i`. Where the loop was not playing, that is R255's sink, the spec's decision D14. -/
def Obligations.LoopStopEmits : Prop :=
  ∀ i : SoundIndex, decode (0x80008#20 ||| BitVec.ofNat 20 i.val) = .ok (.loopStop i) ∧
    ∀ s, ∃ t, exec (.loopStop i) s = .next t ∧
      t = { s with out := s.out ++ [.loopStop i], loopActive := t.loopActive } ∧ t.loopActive[i.val] = false

/-- The abstract audio sink of R255, the spec's decision D14: starting a loop adds it, stopping it removes it, the other
loops are as before, and a second start or stop changes nothing in the sink. -/
def Obligations.AudioSinkLoops : Prop :=
  ∀ (i : SoundIndex) (s : State), ∃ t u t' u',
    exec (.loopStart i) s = .next t ∧ exec (.loopStart i) t = .next t' ∧
    exec (.loopStop i) s = .next u ∧ exec (.loopStop i) u = .next u' ∧
    (∀ j : SoundIndex, t.loopActive[j.val] = (if j = i then true else s.loopActive[j.val]) ∧
      u.loopActive[j.val] = (if j = i then false else s.loopActive[j.val])) ∧
    t'.loopActive = t.loopActive ∧ u'.loopActive = u.loopActive

/-- R167, the spec's decision D14: no operation but `LOOPSTART` and `LOOPSTOP` emits a loop event or changes which loops
play. What is new in the trace after any other operation than `RESET` holds no loop event. That `RESET` leaves the playing loops as
they are is the model's deduction from R272 (assumption log 7). -/
def Obligations.LoopsAreNotWired : Prop :=
  ∀ (i : Instr) (s t : State), exec i s = .next t → (∀ j, i ≠ .loopStart j) → (∀ j, i ≠ .loopStop j) →
    t.loopActive = s.loopActive ∧
      (i ≠ .reset → ∃ es, t.out = s.out ++ es ∧ ∀ e ∈ es, isLoopEvent e = false)

/-! Keys. -/

/-- R212 to R216 and R220 with R170; bit positions and polarity are the spec's decisions D11 and D12. Each key of port 1
sets its bit to its state and changes nothing else. -/
def Obligations.Port1Keys : Prop :=
  ∀ d : Bool,
    (∀ k : BitVec 4, k ∈ [0#4, 1#4, 2#4, 3#4, 4#4, 8#4] →
      decode ((if d then 0x20010#20 else 0x20000#20) ||| k.setWidth 20) =
        .ok (if k = 0#4 then .keyP1Start d else if k = 1#4 then .keyP1Shoot d else if k = 2#4 then .keyP1Left d
          else if k = 3#4 then .keyP1Right d else if k = 4#4 then .keyP2Start d else .keyCoin d)) ∧
    SetsPort1Bit (.keyP1Start d) 2 d ∧ SetsPort1Bit (.keyP1Shoot d) 4 d ∧ SetsPort1Bit (.keyP1Left d) 5 d ∧
    SetsPort1Bit (.keyP1Right d) 6 d ∧ SetsPort1Bit (.keyP2Start d) 1 d ∧ SetsPort1Bit (.keyCoin d) 0 d

/-- R217 to R219 and R221 with R170; bit positions and polarity are the spec's decisions D11 and D12. Each key of port 2
sets its bit to its state and changes nothing else. -/
def Obligations.Port2Keys : Prop :=
  ∀ d : Bool,
    (∀ k : BitVec 4, k ∈ [5#4, 6#4, 7#4, 9#4] →
      decode ((if d then 0x20010#20 else 0x20000#20) ||| k.setWidth 20) =
        .ok (if k = 5#4 then .keyP2Shoot d else if k = 6#4 then .keyP2Left d else if k = 7#4 then .keyP2Right d
          else .keyTilt d)) ∧
    SetsPort2Bit (.keyP2Shoot d) 4 d ∧ SetsPort2Bit (.keyP2Left d) 5 d ∧ SetsPort2Bit (.keyP2Right d) 6 d ∧
    SetsPort2Bit (.keyTilt d) 2 d

/-- R210; bit positions are the spec's decision D11. `POLL` makes the ten assigned latch bits the key-down state, leaves
the unassigned bits and everything else, and polling the keys in any other order gives the same. -/
def Obligations.PollSetsLatches : Prop :=
  ∀ s, ∃ t, exec .poll s = .next t ∧ t = { s with port1 := t.port1, port2 := t.port2 } ∧ PolledLatches s t ∧
    ∀ ks : List LogicalKey, ks.Perm allKeys → ks.foldl pollKey s = t

/-! The framebuffer decoder. -/

/-- R190, R191, R192, with the bit order of the spec's decision D15 and the inverse the spec derives: the map from a video
bit (byte `n`, bit `b`) to the cell `(n / 32, 255 - ((n mod 32) * 8 + b))` is a bijection, and the model's inverse of it
is `n = cx * 32 + (255 - cy) / 8`, `b = (255 - cy) mod 8`. -/
def Obligations.PixelMappingBijective : Prop :=
  (∀ (n b : Nat) (cx : Fin 224) (cy : Fin 256), n < 7168 → b < 8 →
    ((cx.val = n / 32 ∧ cy.val = 255 - (n % 32 * 8 + b)) ↔ (pixelByte cx cy = n ∧ pixelBit cy = b))) ∧
  (∀ n b, n < 7168 → b < 8 → ∃ (cx : Fin 224) (cy : Fin 256), pixelByte cx cy = n ∧ pixelBit cy = b) ∧
  ∀ (cx : Fin 224) (cy : Fin 256), pixelByte cx cy < 7168 ∧ pixelBit cy < 8

/-- R193. The colour of a decoded pixel: off when its bit is 0; when it is 1, red in canvas rows 32 to 63, green in rows
184 to 239 and, from row 184 on, in columns 16 to 133, white elsewhere. -/
def Obligations.ColourOfPixel : Prop :=
  ∀ s, ∃ t, exec .decodeFull s = .next t ∧ ∀ (cx : Fin 224) (cy : Fin 256),
    let lit := (readByte s.mem (0x2400 + (cx.val * 32 + (255 - cy.val) / 8))).getLsbD ((255 - cy.val) % 8)
    let red := 32 ≤ cy.val ∧ cy.val < 64
    let green := (184 ≤ cy.val ∧ cy.val < 240) ∨ (184 ≤ cy.val ∧ 16 ≤ cx.val ∧ cx.val < 134)
    (lit = false → cellAt t.framebuffer cx cy = colorOff) ∧
    (lit = true → red → cellAt t.framebuffer cx cy = colorRed) ∧
    (lit = true → green → cellAt t.framebuffer cx cy = colorGreen) ∧
    (lit = true → ¬red → ¬green → cellAt t.framebuffer cx cy = colorWhite)

/-- R195, R196, with the spec's decisions D15 and D18. `DECODE Top` decodes the video bytes 0 to 3583, leaves every cell
with `cx` from 112 on, and changes nothing else. -/
def Obligations.DecodeTopHalf : Prop :=
  decode 0x60000#20 = .ok .decodeTop ∧
  ∀ s, ∃ t, exec .decodeTop s = .next t ∧ t = { s with framebuffer := t.framebuffer } ∧
    DecodedInto 0 3584 s.mem s.framebuffer t.framebuffer ∧
    ∀ (cx : Fin 224) (cy : Fin 256), 112 ≤ cx.val → cellAt t.framebuffer cx cy = cellAt s.framebuffer cx cy

/-- R195, R197, with the spec's decisions D15 and D18. `DECODE Bottom` decodes the video bytes 3584 to 7167, leaves every
cell with `cx` up to 111, and changes nothing else. -/
def Obligations.DecodeBottomHalf : Prop :=
  decode 0x60001#20 = .ok .decodeBottom ∧
  ∀ s, ∃ t, exec .decodeBottom s = .next t ∧ t = { s with framebuffer := t.framebuffer } ∧
    DecodedInto 3584 7168 s.mem s.framebuffer t.framebuffer ∧
    ∀ (cx : Fin 224) (cy : Fin 256), cx.val < 112 → cellAt t.framebuffer cx cy = cellAt s.framebuffer cx cy

/-- R195, R198, with the spec's decision D15. `DECODE Full` decodes all 7168 video bytes, changes nothing else, and is
`DECODE Top` followed by `DECODE Bottom`, in either order. -/
def Obligations.DecodeFullIsBothHalves : Prop :=
  decode 0x60002#20 = .ok .decodeFull ∧
  ∀ s, ∃ t top bottom, exec .decodeFull s = .next t ∧ t = { s with framebuffer := t.framebuffer } ∧
    DecodedInto 0 7168 s.mem s.framebuffer t.framebuffer ∧
    exec .decodeTop s = .next top ∧ exec .decodeBottom top = .next t ∧
    exec .decodeBottom s = .next bottom ∧ exec .decodeTop bottom = .next t

/-- R199 (derived by the spec; D18 fixes the halves). What a decode shows depends on the video bytes it decodes and, in
the half it does not decode, on the previous framebuffer, and on nothing else of the state. -/
def Obligations.DecodeIsPure : Prop :=
  (∀ s s' : State, (∀ n, n < 3584 → readByte s.mem (0x2400 + n) = readByte s'.mem (0x2400 + n)) →
    (∀ (cx : Fin 224) (cy : Fin 256), 112 ≤ cx.val → cellAt s.framebuffer cx cy = cellAt s'.framebuffer cx cy) →
    ∃ t t', exec .decodeTop s = .next t ∧ exec .decodeTop s' = .next t' ∧ t.framebuffer = t'.framebuffer) ∧
  (∀ s s' : State, (∀ n, 3584 ≤ n → n < 7168 → readByte s.mem (0x2400 + n) = readByte s'.mem (0x2400 + n)) →
    (∀ (cx : Fin 224) (cy : Fin 256), cx.val < 112 → cellAt s.framebuffer cx cy = cellAt s'.framebuffer cx cy) →
    ∃ t t', exec .decodeBottom s = .next t ∧ exec .decodeBottom s' = .next t' ∧ t.framebuffer = t'.framebuffer) ∧
  ∀ s s' : State, (∀ n, n < 7168 → readByte s.mem (0x2400 + n) = readByte s'.mem (0x2400 + n)) →
    ∃ t t', exec .decodeFull s = .next t ∧ exec .decodeFull s' = .next t' ∧ t.framebuffer = t'.framebuffer

/-- R200 (derived by the spec). An all-zero video memory decodes to all cells off; an all-0xFF one to no cell off, red in
rows 32 to 63, green in rows 184 to 239 and in columns 16 to 133 from row 184 on, and white elsewhere. -/
def Obligations.UniformVideoMemory : Prop :=
  (∀ s : State, (∀ n, n < 7168 → readByte s.mem (0x2400 + n) = 0x00#8) → ∃ t, exec .decodeFull s = .next t ∧
    ∀ cx cy, cellAt t.framebuffer cx cy = colorOff) ∧
  ∀ s : State, (∀ n, n < 7168 → readByte s.mem (0x2400 + n) = 0xFF#8) → ∃ t, exec .decodeFull s = .next t ∧
    ∀ cx cy, cellAt t.framebuffer cx cy ≠ colorOff ∧
      (cellAt t.framebuffer cx cy = colorRed ↔ 32 ≤ cy.val ∧ cy.val < 64) ∧
      (cellAt t.framebuffer cx cy = colorGreen ↔
        (184 ≤ cy.val ∧ cy.val < 240) ∨ (184 ≤ cy.val ∧ 16 ≤ cx.val ∧ cx.val < 134)) ∧
      (cellAt t.framebuffer cx cy = colorWhite ↔ ¬(32 ≤ cy.val ∧ cy.val < 64) ∧
        ¬((184 ≤ cy.val ∧ cy.val < 240) ∨ (184 ≤ cy.val ∧ 16 ≤ cx.val ∧ cx.val < 134)))

/-- The order in which the buffer reaches the presentation sink (R40, R256), the spec's decision D16: 57,344 cells,
`FB[cx, cy]` at `cy * 224 + cx`. -/
def Obligations.PresentationOrder : Prop :=
  ∀ fb : Framebuffer, (linearCells fb).length = 57344 ∧
    ∀ (cx : Fin 224) (cy : Fin 256), (linearCells fb)[cy.val * 224 + cx.val]? = some (cellAt fb cx cy)

/-! The Machine Clock. -/

/-- R120, R130, R250 (one clock reading is the spec's decision D3). `TICK` completes whenever time has not gone
backwards: the clock is then started, `last_time` is `now`, the assigned latch bits (D11) are the key-down state, and only what
R120 lists is changed. What the CPU core, memory and the registers behind the write ports become is in `TickRunsTheCore`
and the statements on CPU steps. -/
def Obligations.TickCompletes : Prop :=
  decode 0x40000#20 = .ok .tick ∧
  ∀ s : State, (s.started = true → s.lastTime ≤ s.now) → ∃ t, exec .tick s = .next t ∧
    t = { s with
      started := true, lastTime := s.now, nextInterruptTime := t.nextInterruptTime, frameHalf := t.frameHalf,
      framebuffer := t.framebuffer, port1 := t.port1, port2 := t.port2, cpu := t.cpu, mem := t.mem,
      shiftData := t.shiftData, shiftAmount := t.shiftAmount, latch3Prev := t.latch3Prev, latch5Prev := t.latch5Prev,
      out := t.out } ∧
    PolledLatches s t

/-- R134, R231, the spec's decision D23. A `TICK` whose `now` is less than `last_time` is refused, with both recorded. -/
def Obligations.TickRefusesEarlierTime : Prop :=
  ∀ s : State, s.started = true → s.now < s.lastTime →
    exec .tick s = .refused (.timeWentBackwards s.now s.lastTime)

/-- R121; 8333 is the spec's decision D2. The first `TICK` records `now`, schedules the first interrupt half a frame
later, runs no CPU step, requests no interrupt, decodes and presents the half of `frame_half`, and polls the keys. -/
def Obligations.FirstTick : Prop :=
  ∀ s : State, s.started = false → ∃ t, exec .tick s = .next t ∧
    t = { s with
      started := true, lastTime := s.now, nextInterruptTime := s.now + 8333, framebuffer := t.framebuffer,
      port1 := t.port1, port2 := t.port2, out := s.out ++ [.present t.framebuffer] } ∧
    (s.frameHalf = .top → DecodedInto 0 3584 s.mem s.framebuffer t.framebuffer) ∧
    (s.frameHalf = .bottom → DecodedInto 3584 7168 s.mem s.framebuffer t.framebuffer) ∧
    PolledLatches s t

/-- R123; strictly later and the numbers 8333, 1 and 2 are the spec's decisions D4, D2 and D7. With the interrupt-enable
flag set and `now` past `next_interrupt_time`, a `TICK` requests exactly one interrupt, first of all, with the vector of
`frame_half`; `frame_half` toggles and the due time moves on by 8333. -/
def Obligations.DueInterruptInjected : Prop :=
  ∀ s : State, s.started = true → s.lastTime ≤ s.now → s.cpu.interruptEnabled = true →
    s.nextInterruptTime < s.now → ∃ t es, exec .tick s = .next t ∧
      t.out = s.out ++ [.intReq (match s.frameHalf with | .top => 1#4 | .bottom => 2#4)] ++ es ∧ intVectors es = [] ∧
      t.frameHalf = (match s.frameHalf with | .top => FrameHalf.bottom | .bottom => FrameHalf.top) ∧
      t.nextInterruptTime = s.nextInterruptTime + 8333

/-- R123, R132, R234; D4 makes the comparison strict. With the flag clear, or `now` not past `next_interrupt_time`, a
`TICK` requests no interrupt and neither `frame_half` nor the due time moves, however late it is. -/
def Obligations.NoInterruptUnlessDue : Prop :=
  ∀ s : State, s.started = true → s.lastTime ≤ s.now →
    (s.cpu.interruptEnabled = false ∨ s.now ≤ s.nextInterruptTime) → ∃ t, exec .tick s = .next t ∧
      intVectors t.out = intVectors s.out ∧ t.frameHalf = s.frameHalf ∧ t.nextInterruptTime = s.nextInterruptTime

/-- R125, R126, R127, R128; the rounding, the loop condition and the one-cycle minimum are the spec's decisions D5 and
D6. The CPU steps of a `TICK` use at least the budget, 2 cycles for each microsecond since the last `TICK`, capped at one
second; without the last step they use less than it; no step runs when the budget is 0. -/
def Obligations.CycleBudgetSpent : Prop :=
  ∀ s : State, s.started = true → s.lastTime ≤ s.now → ∃ t es, exec .tick s = .next t ∧ t.out = s.out ++ es ∧
    (∀ c ∈ cpuCycles es, 1 ≤ c) ∧
    2 * min (s.now - s.lastTime) 1000000 ≤ (cpuCycles es).sum ∧
    (cpuCycles es ≠ [] → (cpuCycles es).dropLast.sum < 2 * min (s.now - s.lastTime) 1000000) ∧
    (s.now = s.lastTime → cpuCycles es = [])

/-- A CPU step's port accesses (R251, R127, R155, R162). A port write inside a step acts as `exec` of its `OUT` word at
that moment, before the step goes on; a port read gives the step the byte that its `IN` word returns (read, for
an `IN` issued by itself, in the accumulator: assumption log 9), and changes nothing. -/
def Obligations.CpuStepPortAccess : Prop :=
  (∀ (p v : Byte) (go : CpuProgram) (s : State), ∃ i t,
    decode (0x10000#20 ||| p.setWidth 20 <<< 8 ||| v.setWidth 20) = .ok i ∧ exec i s = .next t ∧
    runProgram (.portWrite p v go) s = runProgram go t) ∧
  ∀ (p : Byte) (go : Byte → CpuProgram) (s : State), ∃ i r, decode (p.setWidth 20 <<< 8) = .ok i ∧
    exec i s = .next { s with cpu := { s.cpu with accumulator := r } } ∧
    runProgram (.portRead p go) s = runProgram (go r) s

/-- A CPU step's stores and its end (R250, R127). A store changes memory alone: it reads back, every other byte is as
before, and memory keeps its canonical form. The end of a step leaves the registers and the cycle count that the core
reports, with one `CpuStep` event. A step of the core is what it answers for its registers and memory. -/
def Obligations.CpuStepStoresAndEnd : Prop :=
  (∀ (a : Nat) (v : Byte) (go : CpuProgram) (s : State), ∃ t, runProgram (.store a v go) s = runProgram go t ∧
    t = { s with mem := t.mem } ∧
    (memoryWf s.mem = true → memoryWf t.mem = true ∧ readByte t.mem a = v ∧
      ∀ b, b ≠ a → readByte t.mem b = readByte s.mem b)) ∧
  (∀ (regs : CpuRegs) (extra : Nat) (s : State), runProgram (.finish regs extra) s =
    ({ s with cpu := regs, out := s.out ++ [.cpuStep (extra + 1)] }, extra + 1)) ∧
  ∀ (core : CpuCore) (s : State), cpuStep core s = runProgram (core.step s.cpu s.mem) s

/-- R238, R250. `request_interrupt(v)` reaches the core: its registers become what the core answers for `v`, a byte of
memory becomes the last value the core stores there or stays, and nothing else changes. -/
def Obligations.InterruptRequestReachesCore : Prop :=
  ∀ (core : CpuCore) (v : IntVector) (s : State), ∃ t, requestInterrupt core v s = t ∧
    t = { s with cpu := (core.requestInterrupt s.cpu s.mem v).regs, mem := t.mem } ∧
    (memoryWf s.mem = true → memoryWf t.mem = true ∧ ∀ a,
      readByte t.mem a = lastStored (core.requestInterrupt s.cpu s.mem v).stores a (readByte s.mem a))

/-- R120, R123, R127, R129, R130; D2, D4, D5 and D7 are the spec's decisions. A later `TICK` requests the interrupt of the
core, if one is due, then runs the loop of R127 on its steps, and changes nothing more of the CPU core, memory, the shift
register, the shift amount and the sound latches: those are as the loop leaves them. -/
def Obligations.TickRunsTheCore : Prop :=
  ∀ s : State, s.started = true → s.lastTime ≤ s.now → ∃ t i u, exec .tick s = .next t ∧
    (s.cpu.interruptEnabled = true → s.nextInterruptTime < s.now →
      let v : IntVector := match s.frameHalf with | .top => 1#4 | .bottom => 2#4
      i = { s with
        out := s.out ++ [.intReq v]
        frameHalf := (match s.frameHalf with | .top => FrameHalf.bottom | .bottom => FrameHalf.top)
        nextInterruptTime := s.nextInterruptTime + 8333
        cpu := (Config.cpuCore.requestInterrupt s.cpu s.mem v).regs
        mem := storeCells s.mem (Config.cpuCore.requestInterrupt s.cpu s.mem v).stores }) ∧
    (s.cpu.interruptEnabled = false ∨ s.now ≤ s.nextInterruptTime → i = s) ∧
    CpuRun Config.cpuCore (2 * min (s.now - s.lastTime) 1000000) 0 i u ∧
    t = { u with
      lastTime := s.now, framebuffer := t.framebuffer, port1 := t.port1, port2 := t.port2,
      out := u.out ++ [.present t.framebuffer] }

/-- The order of R131. What a `TICK` appends to the trace is at most one interrupt request, then groups of one-shots and
CPU steps, then one `Present` of the framebuffer it leaves. -/
def Obligations.TickEventOrder : Prop :=
  ∀ s t : State, exec .tick s = .next t → ∃ ints runs,
    t.out = s.out ++ ints ++ runs ++ [.present t.framebuffer] ∧
    (ints = [] ∨ ints = [.intReq (match s.frameHalf with | .top => vecTop | .bottom => vecBottom)]) ∧ CpuGroups runs

/-- R122, R129, with D15 and D18. Every `TICK` decodes one half, that of `frame_half` as it was before the interrupt, from
the memory its CPU steps leave, whether or not it requests an interrupt; the other half stays. -/
def Obligations.TickRefreshesOneHalf : Prop :=
  ∀ s t : State, exec .tick s = .next t →
    (s.frameHalf = .top → DecodedInto 0 3584 t.mem s.framebuffer t.framebuffer) ∧
    (s.frameHalf = .bottom → DecodedInto 3584 7168 t.mem s.framebuffer t.framebuffer)

/-- Item 4 of R44 as a step law (derived by the spec; 8333 is its decision D2). Once the clock is started, the due time
moves on by 8333 for each interrupt requested, and by nothing else but `RESET`. -/
def Obligations.DueTimeCountsInterrupts : Prop :=
  ∀ (i : Instr) (s t : State), i ≠ .reset → s.started = true → exec i s = .next t →
    t.started = true ∧
    t.nextInterruptTime + (intVectors s.out).length * 8333 = s.nextInterruptTime + (intVectors t.out).length * 8333

/-! Reset. -/

/-- R45, R270, R272; the values of D8, D9 and D19 are the spec's decisions. `RESET` sets every register of the block and
the trace to its reset value, from any state. That it leaves the CPU core, its memory, the audio sink's loops and the host's inputs
as they are is the model's deduction (assumption log 7): R272 says only that reset does not define them. -/
def Obligations.ResetOperation : Prop :=
  decode 0xC0000#20 = .ok .reset ∧
  ∀ s : State, ∃ t, exec .reset s = .next t ∧
    (t.started = false ∧ t.frameHalf = .top ∧ t.lastTime = 0 ∧ t.nextInterruptTime = 0) ∧
    (t.port0 = Config.port0Reset ∧ t.port1 = 0x00#8 ∧ t.port2 = 0x00#8) ∧
    (t.shiftData = 0#16 ∧ t.shiftAmount = 0#3 ∧ t.latch3Prev = 0x00#8 ∧ t.latch5Prev = 0x00#8) ∧
    (∀ cx cy, cellAt t.framebuffer cx cy = colorOff) ∧ t.out = [] ∧
    (t.cpu = s.cpu ∧ t.mem = s.mem ∧ t.loopActive = s.loopActive) ∧
    (t.now = s.now ∧ t.keysDown = s.keysDown ∧ t.requests = s.requests)

/-- R45, R255. The machine right after reset holds the spec's reset values and no playing loop. What it holds for the CPU
core and for memory (assumption logs 4 and 5) is not stated. -/
def Obligations.ResetState : Prop :=
  (State.reset.started = false ∧ State.reset.frameHalf = .top ∧ State.reset.lastTime = 0 ∧
    State.reset.nextInterruptTime = 0) ∧
  (State.reset.port0 = Config.port0Reset ∧ State.reset.port1 = 0x00#8 ∧ State.reset.port2 = 0x00#8) ∧
  (State.reset.shiftData = 0#16 ∧ State.reset.shiftAmount = 0#3 ∧ State.reset.latch3Prev = 0x00#8 ∧
    State.reset.latch5Prev = 0x00#8) ∧
  (∀ cx cy, cellAt State.reset.framebuffer cx cy = colorOff) ∧ State.reset.out = [] ∧
  ∀ i : SoundIndex, State.reset.loopActive[i.val] = false

/-! The whole machine. -/

/-- R230, R231 (the refusals are the spec's decision D23). No operation faults, and the only one that can be refused is a
`TICK` whose time went backwards. -/
def Obligations.OnlyTickCanRefuse : Prop :=
  ∀ (i : Instr) (s : State), (∃ t, exec i s = .next t) ∨
    (i = .tick ∧ s.started = true ∧ s.now < s.lastTime ∧
      exec i s = .refused (.timeWentBackwards s.now s.lastTime))

/-- R23 to R26, R40, R63, R78, R171. Who writes what: the clock's registers only `TICK` and `RESET`; the input latches
only `KEY`, `POLL`, `TICK` and `RESET`; the shift register, the shift amount and the sound latches only their `OUT`,
`TICK` (its CPU steps) and `RESET`; the framebuffer only `DECODE`, `TICK` and `RESET`; CPU memory only `TICK`; port 0
nothing but `RESET`. -/
def Obligations.RegisterWriters : Prop :=
  ∀ (i : Instr) (s t : State), exec i s = .next t → i ≠ .tick →
    t.mem = s.mem ∧
    (i ≠ .reset →
      (t.started = s.started ∧ t.frameHalf = s.frameHalf ∧ t.lastTime = s.lastTime ∧
        t.nextInterruptTime = s.nextInterruptTime ∧ t.port0 = s.port0) ∧
      ((∀ v, i ≠ .out2 v) → t.shiftAmount = s.shiftAmount) ∧
      ((∀ v, i ≠ .out3 v) → t.latch3Prev = s.latch3Prev) ∧
      ((∀ v, i ≠ .out4 v) → t.shiftData = s.shiftData) ∧
      ((∀ v, i ≠ .out5 v) → t.latch5Prev = s.latch5Prev) ∧
      ((∀ d, i ∉ ([.poll, .keyP1Start d, .keyP1Shoot d, .keyP1Left d, .keyP1Right d, .keyP2Start d, .keyP2Shoot d,
        .keyP2Left d, .keyP2Right d, .keyCoin d, .keyTilt d] : List Instr)) → t.port1 = s.port1 ∧ t.port2 = s.port2) ∧
      (i ∉ ([.decodeTop, .decodeBottom, .decodeFull] : List Instr) → t.framebuffer = s.framebuffer))

/-- The invariants of R44, and memory's canonical form, hold right after reset. -/
def Obligations.ResetMeetsInvariants : Prop := Inv State.reset

/-- R44, R131: every step from a state that meets the invariants, reachable or not, answers one that meets them: the
interrupts alternate starting with Top, `frame_half` is their parity, the due time is at least one half-frame more than
their count (the exact law of a step is in `DueInterruptInjected` and `DueTimeCountsInterrupts`), every cell is one of the
four colours, port 0 holds its reset value, the unassigned latch bits are 0, memory is in canonical form. -/
def Obligations.StepKeepsInvariants : Prop := ∀ s t : State, Inv s → step s = .next t → Inv t

/-! Words and steps. -/

/-- R90 to R96 (the packing is the spec's decision D21). Decoding the word of a well-formed operation gives it back, with
every operand at every value. -/
def Obligations.DecodeOfEncode : Prop := ∀ i : Instr, i.WellFormed → decode (encode i) = .ok i

/-- R90 to R99 (the packing is the spec's decision D21). A word that decodes is the word of the operation it decodes to,
and that operation is well-formed: no two words are one operation and no operand is out of its row. -/
def Obligations.EncodeOfDecode : Prop :=
  ∀ (w : OpWord) (i : Instr), decode w = .ok i → i.WellFormed ∧ encode i = w

/-- The complete list of R98, the spec's decision D32: exactly these words are refused by the decoder. -/
def Obligations.ReservedWordsListed : Prop :=
  ∀ w : OpWord, (∃ e, decode w = .error e) ↔
    (w.extractLsb' 17 3 = 0b111#3 ∨
      (w.extractLsb' 17 3 = 0b001#3 ∧ (10 ≤ (w.extractLsb' 0 4).toNat ∨ w.extractLsb' 5 12 ≠ 0#12)) ∨
      (w.extractLsb' 17 3 = 0b011#3 ∧ (w.extractLsb' 0 2 = 0b11#2 ∨ w.extractLsb' 2 15 ≠ 0#15)) ∨
      (w.extractLsb' 17 3 = 0b100#3 ∧ w.extractLsb' 4 13 ≠ 0#13) ∨
      (w.extractLsb' 17 3 ∈ [0b010#3, 0b101#3, 0b110#3] ∧ w.extractLsb' 0 17 ≠ 0#17) ∨
      (w.extractLsb' 16 4 = 0b0000#4 ∧ w.extractLsb' 0 8 ≠ 0#8))

/-- Words of spec/95_test_vectors.md, one or two per family, and some of its reserved words. -/
def Obligations.SampleWordsDecode : Prop :=
  decode 0x00300#20 = .ok .in3 ∧ decode 0x00700#20 = .ok (.inUnmapped4 7#8) ∧
  decode 0x0FF00#20 = .ok (.inUnmapped128 255#8) ∧ decode 0x104AB#20 = .ok (.out4 0xAB#8) ∧
  decode 0x106FF#20 = .ok (.outUnmapped6 6#8 0xFF#8) ∧ decode 0x1FF55#20 = .ok (.outUnmapped128 255#8 0x55#8) ∧
  decode 0x20018#20 = .ok (.keyCoin true) ∧ decode 0x20008#20 = .ok (.keyCoin false) ∧
  decode 0x40000#20 = .ok .tick ∧ decode 0x60001#20 = .ok .decodeBottom ∧ decode 0x80007#20 = .ok (.loopStart 7) ∧
  decode 0x80008#20 = .ok (.loopStop 0) ∧ decode 0xA0000#20 = .ok .poll ∧ decode 0xC0000#20 = .ok .reset ∧
  decode 0xE0000#20 = .error .reservedClass ∧ decode 0x2001A#20 = .error .reservedKey ∧
  decode 0x60003#20 = .error .reservedHalf ∧ decode 0x40001#20 = .error .mustBeZero ∧
  decode 0x00301#20 = .error .readData

/-- A step runs the decoded operation (R2, R97). When the next request's word decodes to `i`, the step is `exec i` on the
state that has taken the request's clock reading and key state and has the request removed; nothing else is done around
it. The list of requests is the model's own (assumption log 1). -/
def Obligations.StepRunsDecodedOperation : Prop :=
  ∀ (s : State) (r : Request) (rest : List Request) (i : Instr), s.requests = r :: rest → decode r.word = .ok i →
    step s = exec i { s with requests := rest, now := r.now, keysDown := r.keysDown }

/-- R98, R231, the spec's decision D32. A step whose next word is reserved is refused, with the word recorded. -/
def Obligations.StepRefusesReservedWord : Prop :=
  ∀ (s : State) (r : Request) (rest : List Request) (e : ReservedWord), s.requests = r :: rest →
    decode r.word = .error e → step s = .refused (.reservedOperation r.word)

/-- The model's choice (assumption log 8), from R136: a step with no operation waiting changes nothing. -/
def Obligations.IdleStepChangesNothing : Prop := ∀ s : State, s.requests = [] → step s = .next s

/-- The model's own (assumption log 1): a word placed by `withFetchWord` is the one the very next step runs, at a clock
reading no earlier than the last, with the keys as they are, and the waiting requests are left as they were. -/
def Obligations.PlacedWordRunsNext : Prop :=
  ∀ (s : State) (n w : Nat) (i : Instr), decodeTableWord n w = some i →
    step (s.withFetchWord n w) = exec i { s with now := max s.now s.lastTime }

/-! The ROM. -/

/-- R64. A ROM image lies at its addresses in both layouts, memory outside it is untouched, and the two layouts give the
same memory when the contiguous image is the four segments in order (derived by the spec). Loading is the host's. -/
def Obligations.RomLayouts : Prop :=
  (∀ (m : Memory) (image : List Byte), memoryWf m = true → ∀ a,
    readByte (loadRom m (.contiguous image)) a = (image[a]?).getD (readByte m a)) ∧
  (∀ (m : Memory) (s0 s1 s2 s3 : List Byte), memoryWf m = true → s0.length = 2048 → s1.length = 2048 →
    s2.length = 2048 → s3.length = 2048 →
    (∀ j, j < 2048 → readByte (loadRom m (.fourSegments s0 s1 s2 s3)) j = s0.getD j 0#8 ∧
      readByte (loadRom m (.fourSegments s0 s1 s2 s3)) (0x0800 + j) = s1.getD j 0#8 ∧
      readByte (loadRom m (.fourSegments s0 s1 s2 s3)) (0x1000 + j) = s2.getD j 0#8 ∧
      readByte (loadRom m (.fourSegments s0 s1 s2 s3)) (0x1800 + j) = s3.getD j 0#8) ∧
    loadRom m (.fourSegments s0 s1 s2 s3) = loadRom m (.contiguous (s0 ++ s1 ++ s2 ++ s3)))

end
end

