-- ==== Sys2Proof/Laws/Memory.lean ====
section
/-! SUPPORT. CPU memory: a read after a write, and that every operation keeps the canonical form. -/

namespace Sys2Proof.Machine

@[simp] theorem readByte_nil (a : Nat) : readByte [] a = unlistedByte := rfl

theorem readByte_cons (a b : Nat) (v : Byte) (m : Memory) :
    readByte ((b, v) :: m) a = if a = b then v else readByte m a := rfl

/-- An address below every listed one reads as an unlisted byte. -/
theorem readByte_eq_unlisted (m : Memory) (a : Nat) (h : m.all (fun c => decide (a < c.1)) = true) :
    readByte m a = unlistedByte := by
  induction m with
  | nil => rfl
  | cons c m ih =>
    simp only [List.all_cons, Bool.and_eq_true, decide_eq_true_eq] at h
    rw [readByte_cons, if_neg (by omega), ih h.2]

/-- Lowering the bound below which no address is listed. -/
theorem all_above_mono (m : Memory) (a b : Nat) (hab : a ≤ b) (h : m.all (fun c => decide (b < c.1)) = true) :
    m.all (fun c => decide (a < c.1)) = true := by
  simp only [List.all_eq_true, decide_eq_true_eq] at h ⊢
  exact fun c hc => lt_of_le_of_lt hab (h c hc)

/-- A write leaves no address at or below a bound that it does not write itself. -/
theorem writeByte_all_above (m : Memory) (b a : Nat) (v : Byte) (hba : b < a)
    (h : m.all (fun c => decide (b < c.1)) = true) : (writeByte m a v).all (fun c => decide (b < c.1)) = true := by
  induction m with
  | nil => unfold writeByte; split <;> simp [hba]
  | cons c m ih =>
    obtain ⟨d, u⟩ := c
    simp only [List.all_cons, Bool.and_eq_true, decide_eq_true_eq] at h
    unfold writeByte
    split
    · split <;> simp [h.1, h.2, hba]
    · split
      · split <;> simp [h.2, hba]
      · simp [h.1, ih h.2]

/-- A write keeps the canonical form. -/
theorem writeByte_wf (m : Memory) (a : Nat) (v : Byte) (h : memoryWf m = true) : memoryWf (writeByte m a v) = true := by
  induction m with
  | nil => unfold writeByte; split <;> simp_all [memoryWf]
  | cons c m ih =>
    obtain ⟨b, u⟩ := c
    have hm := h
    simp only [memoryWf, Bool.and_eq_true, bne_iff_ne] at h
    obtain ⟨⟨hu, hall⟩, hwf⟩ := h
    unfold writeByte
    split
    · rename_i hab
      split
      · exact hm
      · rename_i hv
        have hb := all_above_mono m a b hab.le hall
        rw [memoryWf, hm]
        simp [hv, hab, hb]
    · split
      · rename_i hab
        split
        · exact hwf
        · rename_i hv
          subst hab
          simp [memoryWf, hv, hall, hwf]
      · have hb : b < a := by omega
        simp [memoryWf, hu, writeByte_all_above m b a v hb hall, ih hwf]

/-- A read after a write, in canonical memory: the byte written at its address, what was there anywhere else. -/
theorem readByte_writeByte (m : Memory) (a c : Nat) (v : Byte) (h : memoryWf m = true) :
    readByte (writeByte m a v) c = if c = a then v else readByte m c := by
  induction m with
  | nil => unfold writeByte; split <;> simp_all [readByte_cons]
  | cons d m ih =>
    obtain ⟨b, u⟩ := d
    simp only [memoryWf, Bool.and_eq_true] at h
    obtain ⟨⟨-, hall⟩, hwf⟩ := h
    have habove : a ≤ b → readByte m a = unlistedByte := fun hab =>
      readByte_eq_unlisted m a (all_above_mono m a b hab hall)
    unfold writeByte
    by_cases hca : c = a
    · subst hca
      split
      · split <;> simp_all [readByte_cons, Nat.ne_of_lt, Nat.le_of_lt]
      · split
        · split <;> simp_all [readByte_cons]
        · simp_all [readByte_cons]
    · split
      · split <;> simp [readByte_cons, hca]
      · split
        · split <;> simp_all [readByte_cons]
        · simp_all [readByte_cons]

/-- Storing cells one after the other keeps the canonical form. -/
theorem storeCells_wf (cells : List Host.Cell) (m : Memory) (h : memoryWf m = true) :
    memoryWf (storeCells m cells) = true := by
  induction cells generalizing m with
  | nil => exact h
  | cons c cs ih => exact ih _ (writeByte_wf m c.1 c.2 h)

/-- Loading bytes keeps the canonical form. -/
theorem loadBytes_wf (vs : List Byte) (m : Memory) (a : Nat) (h : memoryWf m = true) :
    memoryWf (loadBytes m a vs) = true := by
  induction vs generalizing m a with
  | nil => exact h
  | cons v vs ih => exact ih _ _ (writeByte_wf m a v h)

/-- Bytes placed from `a` upwards read back from `a` upwards, and every other byte is as before. -/
theorem readByte_loadBytes (vs : List Byte) (m : Memory) (a c : Nat) (h : memoryWf m = true) :
    readByte (loadBytes m a vs) c = if a ≤ c then (vs[c - a]?).getD (readByte m c) else readByte m c := by
  induction vs generalizing m a with
  | nil => simp [loadBytes]
  | cons v vs ih =>
    rw [loadBytes, ih _ _ (writeByte_wf m a v h), readByte_writeByte m a c v h]
    rcases Nat.lt_trichotomy c a with hc | rfl | hc
    · rw [if_neg (by omega), if_neg (by omega), if_neg (by omega)]
    · simp
    · obtain ⟨k, rfl⟩ := Nat.exists_eq_add_of_lt hc
      rw [if_pos (by omega), if_neg (by omega), if_pos (by omega), show a + k + 1 - a = k + 1 by omega,
        show a + k + 1 - (a + 1) = k by omega, List.getElem?_cons_succ]

/-- Loading a ROM image keeps the canonical form. -/
theorem loadRom_wf (rom : RomImage) (m : Memory) (h : memoryWf m = true) : memoryWf (loadRom m rom) = true := by
  cases rom with
  | contiguous image => exact loadBytes_wf image m 0 h
  | fourSegments s0 s1 s2 s3 =>
    exact loadBytes_wf _ _ _ (loadBytes_wf _ _ _ (loadBytes_wf _ _ _ (loadBytes_wf _ _ _ h)))

/-- Bytes loaded from `a` upwards are two loads, the second where the first ends. -/
theorem loadBytes_append (us vs : List Byte) (m : Memory) (a : Nat) :
    loadBytes m a (us ++ vs) = loadBytes (loadBytes m a us) (a + us.length) vs := by
  induction us generalizing m a with
  | nil => simp [loadBytes]
  | cons u us ih => simp [loadBytes, ih, Nat.add_comm, Nat.add_assoc]

/-- The memory right after reset is in canonical form. -/
theorem reset_mem_wf : memoryWf State.reset.mem = true := rfl

end Sys2Proof.Machine
end

