-- ==== Sys2Proof/Laws/State.lean ====
section
/-! SUPPORT. One lemma per field per named update of `State`: what the update leaves in the field. -/

namespace Sys2Proof.Machine

variable (s : State)

/-! `State.emit`. -/

@[simp] theorem emit_started (e : Event) : (s.emit e).started = s.started := rfl
@[simp] theorem emit_frameHalf (e : Event) : (s.emit e).frameHalf = s.frameHalf := rfl
@[simp] theorem emit_lastTime (e : Event) : (s.emit e).lastTime = s.lastTime := rfl
@[simp] theorem emit_nextInterruptTime (e : Event) : (s.emit e).nextInterruptTime = s.nextInterruptTime := rfl
@[simp] theorem emit_port0 (e : Event) : (s.emit e).port0 = s.port0 := rfl
@[simp] theorem emit_port1 (e : Event) : (s.emit e).port1 = s.port1 := rfl
@[simp] theorem emit_port2 (e : Event) : (s.emit e).port2 = s.port2 := rfl
@[simp] theorem emit_shiftData (e : Event) : (s.emit e).shiftData = s.shiftData := rfl
@[simp] theorem emit_shiftAmount (e : Event) : (s.emit e).shiftAmount = s.shiftAmount := rfl
@[simp] theorem emit_latch3Prev (e : Event) : (s.emit e).latch3Prev = s.latch3Prev := rfl
@[simp] theorem emit_latch5Prev (e : Event) : (s.emit e).latch5Prev = s.latch5Prev := rfl
@[simp] theorem emit_framebuffer (e : Event) : (s.emit e).framebuffer = s.framebuffer := rfl
@[simp] theorem emit_out (e : Event) : (s.emit e).out = s.out ++ [e] := rfl
@[simp] theorem emit_cpu (e : Event) : (s.emit e).cpu = s.cpu := rfl
@[simp] theorem emit_mem (e : Event) : (s.emit e).mem = s.mem := rfl
@[simp] theorem emit_loopActive (e : Event) : (s.emit e).loopActive = s.loopActive := rfl
@[simp] theorem emit_now (e : Event) : (s.emit e).now = s.now := rfl
@[simp] theorem emit_keysDown (e : Event) : (s.emit e).keysDown = s.keysDown := rfl
@[simp] theorem emit_requests (e : Event) : (s.emit e).requests = s.requests := rfl

/-! `State.setAccumulator`. -/

@[simp] theorem setAccumulator_started (v : Byte) : (s.setAccumulator v).started = s.started := rfl
@[simp] theorem setAccumulator_frameHalf (v : Byte) : (s.setAccumulator v).frameHalf = s.frameHalf := rfl
@[simp] theorem setAccumulator_lastTime (v : Byte) : (s.setAccumulator v).lastTime = s.lastTime := rfl
@[simp] theorem setAccumulator_nextInterruptTime (v : Byte) : (s.setAccumulator v).nextInterruptTime = s.nextInterruptTime := rfl
@[simp] theorem setAccumulator_port0 (v : Byte) : (s.setAccumulator v).port0 = s.port0 := rfl
@[simp] theorem setAccumulator_port1 (v : Byte) : (s.setAccumulator v).port1 = s.port1 := rfl
@[simp] theorem setAccumulator_port2 (v : Byte) : (s.setAccumulator v).port2 = s.port2 := rfl
@[simp] theorem setAccumulator_shiftData (v : Byte) : (s.setAccumulator v).shiftData = s.shiftData := rfl
@[simp] theorem setAccumulator_shiftAmount (v : Byte) : (s.setAccumulator v).shiftAmount = s.shiftAmount := rfl
@[simp] theorem setAccumulator_latch3Prev (v : Byte) : (s.setAccumulator v).latch3Prev = s.latch3Prev := rfl
@[simp] theorem setAccumulator_latch5Prev (v : Byte) : (s.setAccumulator v).latch5Prev = s.latch5Prev := rfl
@[simp] theorem setAccumulator_framebuffer (v : Byte) : (s.setAccumulator v).framebuffer = s.framebuffer := rfl
@[simp] theorem setAccumulator_out (v : Byte) : (s.setAccumulator v).out = s.out := rfl
@[simp] theorem setAccumulator_cpu (v : Byte) : (s.setAccumulator v).cpu = { s.cpu with accumulator := v } := rfl
@[simp] theorem setAccumulator_mem (v : Byte) : (s.setAccumulator v).mem = s.mem := rfl
@[simp] theorem setAccumulator_loopActive (v : Byte) : (s.setAccumulator v).loopActive = s.loopActive := rfl
@[simp] theorem setAccumulator_now (v : Byte) : (s.setAccumulator v).now = s.now := rfl
@[simp] theorem setAccumulator_keysDown (v : Byte) : (s.setAccumulator v).keysDown = s.keysDown := rfl
@[simp] theorem setAccumulator_requests (v : Byte) : (s.setAccumulator v).requests = s.requests := rfl

/-! `State.setCpu`. -/

@[simp] theorem setCpu_started (r : CpuRegs) : (s.setCpu r).started = s.started := rfl
@[simp] theorem setCpu_frameHalf (r : CpuRegs) : (s.setCpu r).frameHalf = s.frameHalf := rfl
@[simp] theorem setCpu_lastTime (r : CpuRegs) : (s.setCpu r).lastTime = s.lastTime := rfl
@[simp] theorem setCpu_nextInterruptTime (r : CpuRegs) : (s.setCpu r).nextInterruptTime = s.nextInterruptTime := rfl
@[simp] theorem setCpu_port0 (r : CpuRegs) : (s.setCpu r).port0 = s.port0 := rfl
@[simp] theorem setCpu_port1 (r : CpuRegs) : (s.setCpu r).port1 = s.port1 := rfl
@[simp] theorem setCpu_port2 (r : CpuRegs) : (s.setCpu r).port2 = s.port2 := rfl
@[simp] theorem setCpu_shiftData (r : CpuRegs) : (s.setCpu r).shiftData = s.shiftData := rfl
@[simp] theorem setCpu_shiftAmount (r : CpuRegs) : (s.setCpu r).shiftAmount = s.shiftAmount := rfl
@[simp] theorem setCpu_latch3Prev (r : CpuRegs) : (s.setCpu r).latch3Prev = s.latch3Prev := rfl
@[simp] theorem setCpu_latch5Prev (r : CpuRegs) : (s.setCpu r).latch5Prev = s.latch5Prev := rfl
@[simp] theorem setCpu_framebuffer (r : CpuRegs) : (s.setCpu r).framebuffer = s.framebuffer := rfl
@[simp] theorem setCpu_out (r : CpuRegs) : (s.setCpu r).out = s.out := rfl
@[simp] theorem setCpu_cpu (r : CpuRegs) : (s.setCpu r).cpu = r := rfl
@[simp] theorem setCpu_mem (r : CpuRegs) : (s.setCpu r).mem = s.mem := rfl
@[simp] theorem setCpu_loopActive (r : CpuRegs) : (s.setCpu r).loopActive = s.loopActive := rfl
@[simp] theorem setCpu_now (r : CpuRegs) : (s.setCpu r).now = s.now := rfl
@[simp] theorem setCpu_keysDown (r : CpuRegs) : (s.setCpu r).keysDown = s.keysDown := rfl
@[simp] theorem setCpu_requests (r : CpuRegs) : (s.setCpu r).requests = s.requests := rfl

/-! `State.setMem`. -/

@[simp] theorem setMem_started (m : Memory) : (s.setMem m).started = s.started := rfl
@[simp] theorem setMem_frameHalf (m : Memory) : (s.setMem m).frameHalf = s.frameHalf := rfl
@[simp] theorem setMem_lastTime (m : Memory) : (s.setMem m).lastTime = s.lastTime := rfl
@[simp] theorem setMem_nextInterruptTime (m : Memory) : (s.setMem m).nextInterruptTime = s.nextInterruptTime := rfl
@[simp] theorem setMem_port0 (m : Memory) : (s.setMem m).port0 = s.port0 := rfl
@[simp] theorem setMem_port1 (m : Memory) : (s.setMem m).port1 = s.port1 := rfl
@[simp] theorem setMem_port2 (m : Memory) : (s.setMem m).port2 = s.port2 := rfl
@[simp] theorem setMem_shiftData (m : Memory) : (s.setMem m).shiftData = s.shiftData := rfl
@[simp] theorem setMem_shiftAmount (m : Memory) : (s.setMem m).shiftAmount = s.shiftAmount := rfl
@[simp] theorem setMem_latch3Prev (m : Memory) : (s.setMem m).latch3Prev = s.latch3Prev := rfl
@[simp] theorem setMem_latch5Prev (m : Memory) : (s.setMem m).latch5Prev = s.latch5Prev := rfl
@[simp] theorem setMem_framebuffer (m : Memory) : (s.setMem m).framebuffer = s.framebuffer := rfl
@[simp] theorem setMem_out (m : Memory) : (s.setMem m).out = s.out := rfl
@[simp] theorem setMem_cpu (m : Memory) : (s.setMem m).cpu = s.cpu := rfl
@[simp] theorem setMem_mem (m : Memory) : (s.setMem m).mem = m := rfl
@[simp] theorem setMem_loopActive (m : Memory) : (s.setMem m).loopActive = s.loopActive := rfl
@[simp] theorem setMem_now (m : Memory) : (s.setMem m).now = s.now := rfl
@[simp] theorem setMem_keysDown (m : Memory) : (s.setMem m).keysDown = s.keysDown := rfl
@[simp] theorem setMem_requests (m : Memory) : (s.setMem m).requests = s.requests := rfl

/-! `State.setShiftAmount`. -/

@[simp] theorem setShiftAmount_started (a : BitVec 3) : (s.setShiftAmount a).started = s.started := rfl
@[simp] theorem setShiftAmount_frameHalf (a : BitVec 3) : (s.setShiftAmount a).frameHalf = s.frameHalf := rfl
@[simp] theorem setShiftAmount_lastTime (a : BitVec 3) : (s.setShiftAmount a).lastTime = s.lastTime := rfl
@[simp] theorem setShiftAmount_nextInterruptTime (a : BitVec 3) : (s.setShiftAmount a).nextInterruptTime = s.nextInterruptTime := rfl
@[simp] theorem setShiftAmount_port0 (a : BitVec 3) : (s.setShiftAmount a).port0 = s.port0 := rfl
@[simp] theorem setShiftAmount_port1 (a : BitVec 3) : (s.setShiftAmount a).port1 = s.port1 := rfl
@[simp] theorem setShiftAmount_port2 (a : BitVec 3) : (s.setShiftAmount a).port2 = s.port2 := rfl
@[simp] theorem setShiftAmount_shiftData (a : BitVec 3) : (s.setShiftAmount a).shiftData = s.shiftData := rfl
@[simp] theorem setShiftAmount_shiftAmount (a : BitVec 3) : (s.setShiftAmount a).shiftAmount = a := rfl
@[simp] theorem setShiftAmount_latch3Prev (a : BitVec 3) : (s.setShiftAmount a).latch3Prev = s.latch3Prev := rfl
@[simp] theorem setShiftAmount_latch5Prev (a : BitVec 3) : (s.setShiftAmount a).latch5Prev = s.latch5Prev := rfl
@[simp] theorem setShiftAmount_framebuffer (a : BitVec 3) : (s.setShiftAmount a).framebuffer = s.framebuffer := rfl
@[simp] theorem setShiftAmount_out (a : BitVec 3) : (s.setShiftAmount a).out = s.out := rfl
@[simp] theorem setShiftAmount_cpu (a : BitVec 3) : (s.setShiftAmount a).cpu = s.cpu := rfl
@[simp] theorem setShiftAmount_mem (a : BitVec 3) : (s.setShiftAmount a).mem = s.mem := rfl
@[simp] theorem setShiftAmount_loopActive (a : BitVec 3) : (s.setShiftAmount a).loopActive = s.loopActive := rfl
@[simp] theorem setShiftAmount_now (a : BitVec 3) : (s.setShiftAmount a).now = s.now := rfl
@[simp] theorem setShiftAmount_keysDown (a : BitVec 3) : (s.setShiftAmount a).keysDown = s.keysDown := rfl
@[simp] theorem setShiftAmount_requests (a : BitVec 3) : (s.setShiftAmount a).requests = s.requests := rfl

/-! `State.setShiftData`. -/

@[simp] theorem setShiftData_started (d : BitVec 16) : (s.setShiftData d).started = s.started := rfl
@[simp] theorem setShiftData_frameHalf (d : BitVec 16) : (s.setShiftData d).frameHalf = s.frameHalf := rfl
@[simp] theorem setShiftData_lastTime (d : BitVec 16) : (s.setShiftData d).lastTime = s.lastTime := rfl
@[simp] theorem setShiftData_nextInterruptTime (d : BitVec 16) : (s.setShiftData d).nextInterruptTime = s.nextInterruptTime := rfl
@[simp] theorem setShiftData_port0 (d : BitVec 16) : (s.setShiftData d).port0 = s.port0 := rfl
@[simp] theorem setShiftData_port1 (d : BitVec 16) : (s.setShiftData d).port1 = s.port1 := rfl
@[simp] theorem setShiftData_port2 (d : BitVec 16) : (s.setShiftData d).port2 = s.port2 := rfl
@[simp] theorem setShiftData_shiftData (d : BitVec 16) : (s.setShiftData d).shiftData = d := rfl
@[simp] theorem setShiftData_shiftAmount (d : BitVec 16) : (s.setShiftData d).shiftAmount = s.shiftAmount := rfl
@[simp] theorem setShiftData_latch3Prev (d : BitVec 16) : (s.setShiftData d).latch3Prev = s.latch3Prev := rfl
@[simp] theorem setShiftData_latch5Prev (d : BitVec 16) : (s.setShiftData d).latch5Prev = s.latch5Prev := rfl
@[simp] theorem setShiftData_framebuffer (d : BitVec 16) : (s.setShiftData d).framebuffer = s.framebuffer := rfl
@[simp] theorem setShiftData_out (d : BitVec 16) : (s.setShiftData d).out = s.out := rfl
@[simp] theorem setShiftData_cpu (d : BitVec 16) : (s.setShiftData d).cpu = s.cpu := rfl
@[simp] theorem setShiftData_mem (d : BitVec 16) : (s.setShiftData d).mem = s.mem := rfl
@[simp] theorem setShiftData_loopActive (d : BitVec 16) : (s.setShiftData d).loopActive = s.loopActive := rfl
@[simp] theorem setShiftData_now (d : BitVec 16) : (s.setShiftData d).now = s.now := rfl
@[simp] theorem setShiftData_keysDown (d : BitVec 16) : (s.setShiftData d).keysDown = s.keysDown := rfl
@[simp] theorem setShiftData_requests (d : BitVec 16) : (s.setShiftData d).requests = s.requests := rfl

/-! `State.setLatch3`. -/

@[simp] theorem setLatch3_started (v : Byte) : (s.setLatch3 v).started = s.started := rfl
@[simp] theorem setLatch3_frameHalf (v : Byte) : (s.setLatch3 v).frameHalf = s.frameHalf := rfl
@[simp] theorem setLatch3_lastTime (v : Byte) : (s.setLatch3 v).lastTime = s.lastTime := rfl
@[simp] theorem setLatch3_nextInterruptTime (v : Byte) : (s.setLatch3 v).nextInterruptTime = s.nextInterruptTime := rfl
@[simp] theorem setLatch3_port0 (v : Byte) : (s.setLatch3 v).port0 = s.port0 := rfl
@[simp] theorem setLatch3_port1 (v : Byte) : (s.setLatch3 v).port1 = s.port1 := rfl
@[simp] theorem setLatch3_port2 (v : Byte) : (s.setLatch3 v).port2 = s.port2 := rfl
@[simp] theorem setLatch3_shiftData (v : Byte) : (s.setLatch3 v).shiftData = s.shiftData := rfl
@[simp] theorem setLatch3_shiftAmount (v : Byte) : (s.setLatch3 v).shiftAmount = s.shiftAmount := rfl
@[simp] theorem setLatch3_latch3Prev (v : Byte) : (s.setLatch3 v).latch3Prev = v := rfl
@[simp] theorem setLatch3_latch5Prev (v : Byte) : (s.setLatch3 v).latch5Prev = s.latch5Prev := rfl
@[simp] theorem setLatch3_framebuffer (v : Byte) : (s.setLatch3 v).framebuffer = s.framebuffer := rfl
@[simp] theorem setLatch3_out (v : Byte) : (s.setLatch3 v).out = s.out := rfl
@[simp] theorem setLatch3_cpu (v : Byte) : (s.setLatch3 v).cpu = s.cpu := rfl
@[simp] theorem setLatch3_mem (v : Byte) : (s.setLatch3 v).mem = s.mem := rfl
@[simp] theorem setLatch3_loopActive (v : Byte) : (s.setLatch3 v).loopActive = s.loopActive := rfl
@[simp] theorem setLatch3_now (v : Byte) : (s.setLatch3 v).now = s.now := rfl
@[simp] theorem setLatch3_keysDown (v : Byte) : (s.setLatch3 v).keysDown = s.keysDown := rfl
@[simp] theorem setLatch3_requests (v : Byte) : (s.setLatch3 v).requests = s.requests := rfl

/-! `State.setLatch5`. -/

@[simp] theorem setLatch5_started (v : Byte) : (s.setLatch5 v).started = s.started := rfl
@[simp] theorem setLatch5_frameHalf (v : Byte) : (s.setLatch5 v).frameHalf = s.frameHalf := rfl
@[simp] theorem setLatch5_lastTime (v : Byte) : (s.setLatch5 v).lastTime = s.lastTime := rfl
@[simp] theorem setLatch5_nextInterruptTime (v : Byte) : (s.setLatch5 v).nextInterruptTime = s.nextInterruptTime := rfl
@[simp] theorem setLatch5_port0 (v : Byte) : (s.setLatch5 v).port0 = s.port0 := rfl
@[simp] theorem setLatch5_port1 (v : Byte) : (s.setLatch5 v).port1 = s.port1 := rfl
@[simp] theorem setLatch5_port2 (v : Byte) : (s.setLatch5 v).port2 = s.port2 := rfl
@[simp] theorem setLatch5_shiftData (v : Byte) : (s.setLatch5 v).shiftData = s.shiftData := rfl
@[simp] theorem setLatch5_shiftAmount (v : Byte) : (s.setLatch5 v).shiftAmount = s.shiftAmount := rfl
@[simp] theorem setLatch5_latch3Prev (v : Byte) : (s.setLatch5 v).latch3Prev = s.latch3Prev := rfl
@[simp] theorem setLatch5_latch5Prev (v : Byte) : (s.setLatch5 v).latch5Prev = v := rfl
@[simp] theorem setLatch5_framebuffer (v : Byte) : (s.setLatch5 v).framebuffer = s.framebuffer := rfl
@[simp] theorem setLatch5_out (v : Byte) : (s.setLatch5 v).out = s.out := rfl
@[simp] theorem setLatch5_cpu (v : Byte) : (s.setLatch5 v).cpu = s.cpu := rfl
@[simp] theorem setLatch5_mem (v : Byte) : (s.setLatch5 v).mem = s.mem := rfl
@[simp] theorem setLatch5_loopActive (v : Byte) : (s.setLatch5 v).loopActive = s.loopActive := rfl
@[simp] theorem setLatch5_now (v : Byte) : (s.setLatch5 v).now = s.now := rfl
@[simp] theorem setLatch5_keysDown (v : Byte) : (s.setLatch5 v).keysDown = s.keysDown := rfl
@[simp] theorem setLatch5_requests (v : Byte) : (s.setLatch5 v).requests = s.requests := rfl

/-! `State.setPort1`. -/

@[simp] theorem setPort1_started (v : Byte) : (s.setPort1 v).started = s.started := rfl
@[simp] theorem setPort1_frameHalf (v : Byte) : (s.setPort1 v).frameHalf = s.frameHalf := rfl
@[simp] theorem setPort1_lastTime (v : Byte) : (s.setPort1 v).lastTime = s.lastTime := rfl
@[simp] theorem setPort1_nextInterruptTime (v : Byte) : (s.setPort1 v).nextInterruptTime = s.nextInterruptTime := rfl
@[simp] theorem setPort1_port0 (v : Byte) : (s.setPort1 v).port0 = s.port0 := rfl
@[simp] theorem setPort1_port1 (v : Byte) : (s.setPort1 v).port1 = v := rfl
@[simp] theorem setPort1_port2 (v : Byte) : (s.setPort1 v).port2 = s.port2 := rfl
@[simp] theorem setPort1_shiftData (v : Byte) : (s.setPort1 v).shiftData = s.shiftData := rfl
@[simp] theorem setPort1_shiftAmount (v : Byte) : (s.setPort1 v).shiftAmount = s.shiftAmount := rfl
@[simp] theorem setPort1_latch3Prev (v : Byte) : (s.setPort1 v).latch3Prev = s.latch3Prev := rfl
@[simp] theorem setPort1_latch5Prev (v : Byte) : (s.setPort1 v).latch5Prev = s.latch5Prev := rfl
@[simp] theorem setPort1_framebuffer (v : Byte) : (s.setPort1 v).framebuffer = s.framebuffer := rfl
@[simp] theorem setPort1_out (v : Byte) : (s.setPort1 v).out = s.out := rfl
@[simp] theorem setPort1_cpu (v : Byte) : (s.setPort1 v).cpu = s.cpu := rfl
@[simp] theorem setPort1_mem (v : Byte) : (s.setPort1 v).mem = s.mem := rfl
@[simp] theorem setPort1_loopActive (v : Byte) : (s.setPort1 v).loopActive = s.loopActive := rfl
@[simp] theorem setPort1_now (v : Byte) : (s.setPort1 v).now = s.now := rfl
@[simp] theorem setPort1_keysDown (v : Byte) : (s.setPort1 v).keysDown = s.keysDown := rfl
@[simp] theorem setPort1_requests (v : Byte) : (s.setPort1 v).requests = s.requests := rfl

/-! `State.setPort2`. -/

@[simp] theorem setPort2_started (v : Byte) : (s.setPort2 v).started = s.started := rfl
@[simp] theorem setPort2_frameHalf (v : Byte) : (s.setPort2 v).frameHalf = s.frameHalf := rfl
@[simp] theorem setPort2_lastTime (v : Byte) : (s.setPort2 v).lastTime = s.lastTime := rfl
@[simp] theorem setPort2_nextInterruptTime (v : Byte) : (s.setPort2 v).nextInterruptTime = s.nextInterruptTime := rfl
@[simp] theorem setPort2_port0 (v : Byte) : (s.setPort2 v).port0 = s.port0 := rfl
@[simp] theorem setPort2_port1 (v : Byte) : (s.setPort2 v).port1 = s.port1 := rfl
@[simp] theorem setPort2_port2 (v : Byte) : (s.setPort2 v).port2 = v := rfl
@[simp] theorem setPort2_shiftData (v : Byte) : (s.setPort2 v).shiftData = s.shiftData := rfl
@[simp] theorem setPort2_shiftAmount (v : Byte) : (s.setPort2 v).shiftAmount = s.shiftAmount := rfl
@[simp] theorem setPort2_latch3Prev (v : Byte) : (s.setPort2 v).latch3Prev = s.latch3Prev := rfl
@[simp] theorem setPort2_latch5Prev (v : Byte) : (s.setPort2 v).latch5Prev = s.latch5Prev := rfl
@[simp] theorem setPort2_framebuffer (v : Byte) : (s.setPort2 v).framebuffer = s.framebuffer := rfl
@[simp] theorem setPort2_out (v : Byte) : (s.setPort2 v).out = s.out := rfl
@[simp] theorem setPort2_cpu (v : Byte) : (s.setPort2 v).cpu = s.cpu := rfl
@[simp] theorem setPort2_mem (v : Byte) : (s.setPort2 v).mem = s.mem := rfl
@[simp] theorem setPort2_loopActive (v : Byte) : (s.setPort2 v).loopActive = s.loopActive := rfl
@[simp] theorem setPort2_now (v : Byte) : (s.setPort2 v).now = s.now := rfl
@[simp] theorem setPort2_keysDown (v : Byte) : (s.setPort2 v).keysDown = s.keysDown := rfl
@[simp] theorem setPort2_requests (v : Byte) : (s.setPort2 v).requests = s.requests := rfl

/-! `State.setFramebuffer`. -/

@[simp] theorem setFramebuffer_started (fb : Framebuffer) : (s.setFramebuffer fb).started = s.started := rfl
@[simp] theorem setFramebuffer_frameHalf (fb : Framebuffer) : (s.setFramebuffer fb).frameHalf = s.frameHalf := rfl
@[simp] theorem setFramebuffer_lastTime (fb : Framebuffer) : (s.setFramebuffer fb).lastTime = s.lastTime := rfl
@[simp] theorem setFramebuffer_nextInterruptTime (fb : Framebuffer) : (s.setFramebuffer fb).nextInterruptTime = s.nextInterruptTime := rfl
@[simp] theorem setFramebuffer_port0 (fb : Framebuffer) : (s.setFramebuffer fb).port0 = s.port0 := rfl
@[simp] theorem setFramebuffer_port1 (fb : Framebuffer) : (s.setFramebuffer fb).port1 = s.port1 := rfl
@[simp] theorem setFramebuffer_port2 (fb : Framebuffer) : (s.setFramebuffer fb).port2 = s.port2 := rfl
@[simp] theorem setFramebuffer_shiftData (fb : Framebuffer) : (s.setFramebuffer fb).shiftData = s.shiftData := rfl
@[simp] theorem setFramebuffer_shiftAmount (fb : Framebuffer) : (s.setFramebuffer fb).shiftAmount = s.shiftAmount := rfl
@[simp] theorem setFramebuffer_latch3Prev (fb : Framebuffer) : (s.setFramebuffer fb).latch3Prev = s.latch3Prev := rfl
@[simp] theorem setFramebuffer_latch5Prev (fb : Framebuffer) : (s.setFramebuffer fb).latch5Prev = s.latch5Prev := rfl
@[simp] theorem setFramebuffer_framebuffer (fb : Framebuffer) : (s.setFramebuffer fb).framebuffer = fb := rfl
@[simp] theorem setFramebuffer_out (fb : Framebuffer) : (s.setFramebuffer fb).out = s.out := rfl
@[simp] theorem setFramebuffer_cpu (fb : Framebuffer) : (s.setFramebuffer fb).cpu = s.cpu := rfl
@[simp] theorem setFramebuffer_mem (fb : Framebuffer) : (s.setFramebuffer fb).mem = s.mem := rfl
@[simp] theorem setFramebuffer_loopActive (fb : Framebuffer) : (s.setFramebuffer fb).loopActive = s.loopActive := rfl
@[simp] theorem setFramebuffer_now (fb : Framebuffer) : (s.setFramebuffer fb).now = s.now := rfl
@[simp] theorem setFramebuffer_keysDown (fb : Framebuffer) : (s.setFramebuffer fb).keysDown = s.keysDown := rfl
@[simp] theorem setFramebuffer_requests (fb : Framebuffer) : (s.setFramebuffer fb).requests = s.requests := rfl

/-! `State.setLoop`. -/

@[simp] theorem setLoop_started (i : SoundIndex) (b : Bool) : (s.setLoop i b).started = s.started := rfl
@[simp] theorem setLoop_frameHalf (i : SoundIndex) (b : Bool) : (s.setLoop i b).frameHalf = s.frameHalf := rfl
@[simp] theorem setLoop_lastTime (i : SoundIndex) (b : Bool) : (s.setLoop i b).lastTime = s.lastTime := rfl
@[simp] theorem setLoop_nextInterruptTime (i : SoundIndex) (b : Bool) : (s.setLoop i b).nextInterruptTime = s.nextInterruptTime := rfl
@[simp] theorem setLoop_port0 (i : SoundIndex) (b : Bool) : (s.setLoop i b).port0 = s.port0 := rfl
@[simp] theorem setLoop_port1 (i : SoundIndex) (b : Bool) : (s.setLoop i b).port1 = s.port1 := rfl
@[simp] theorem setLoop_port2 (i : SoundIndex) (b : Bool) : (s.setLoop i b).port2 = s.port2 := rfl
@[simp] theorem setLoop_shiftData (i : SoundIndex) (b : Bool) : (s.setLoop i b).shiftData = s.shiftData := rfl
@[simp] theorem setLoop_shiftAmount (i : SoundIndex) (b : Bool) : (s.setLoop i b).shiftAmount = s.shiftAmount := rfl
@[simp] theorem setLoop_latch3Prev (i : SoundIndex) (b : Bool) : (s.setLoop i b).latch3Prev = s.latch3Prev := rfl
@[simp] theorem setLoop_latch5Prev (i : SoundIndex) (b : Bool) : (s.setLoop i b).latch5Prev = s.latch5Prev := rfl
@[simp] theorem setLoop_framebuffer (i : SoundIndex) (b : Bool) : (s.setLoop i b).framebuffer = s.framebuffer := rfl
@[simp] theorem setLoop_out (i : SoundIndex) (b : Bool) : (s.setLoop i b).out = s.out := rfl
@[simp] theorem setLoop_cpu (i : SoundIndex) (b : Bool) : (s.setLoop i b).cpu = s.cpu := rfl
@[simp] theorem setLoop_mem (i : SoundIndex) (b : Bool) : (s.setLoop i b).mem = s.mem := rfl
@[simp] theorem setLoop_loopActive (i : SoundIndex) (b : Bool) : (s.setLoop i b).loopActive = s.loopActive.set i.val b := rfl
@[simp] theorem setLoop_now (i : SoundIndex) (b : Bool) : (s.setLoop i b).now = s.now := rfl
@[simp] theorem setLoop_keysDown (i : SoundIndex) (b : Bool) : (s.setLoop i b).keysDown = s.keysDown := rfl
@[simp] theorem setLoop_requests (i : SoundIndex) (b : Bool) : (s.setLoop i b).requests = s.requests := rfl

/-! `State.setLastTime`. -/

@[simp] theorem setLastTime_started (t : Nat) : (s.setLastTime t).started = s.started := rfl
@[simp] theorem setLastTime_frameHalf (t : Nat) : (s.setLastTime t).frameHalf = s.frameHalf := rfl
@[simp] theorem setLastTime_lastTime (t : Nat) : (s.setLastTime t).lastTime = t := rfl
@[simp] theorem setLastTime_nextInterruptTime (t : Nat) : (s.setLastTime t).nextInterruptTime = s.nextInterruptTime := rfl
@[simp] theorem setLastTime_port0 (t : Nat) : (s.setLastTime t).port0 = s.port0 := rfl
@[simp] theorem setLastTime_port1 (t : Nat) : (s.setLastTime t).port1 = s.port1 := rfl
@[simp] theorem setLastTime_port2 (t : Nat) : (s.setLastTime t).port2 = s.port2 := rfl
@[simp] theorem setLastTime_shiftData (t : Nat) : (s.setLastTime t).shiftData = s.shiftData := rfl
@[simp] theorem setLastTime_shiftAmount (t : Nat) : (s.setLastTime t).shiftAmount = s.shiftAmount := rfl
@[simp] theorem setLastTime_latch3Prev (t : Nat) : (s.setLastTime t).latch3Prev = s.latch3Prev := rfl
@[simp] theorem setLastTime_latch5Prev (t : Nat) : (s.setLastTime t).latch5Prev = s.latch5Prev := rfl
@[simp] theorem setLastTime_framebuffer (t : Nat) : (s.setLastTime t).framebuffer = s.framebuffer := rfl
@[simp] theorem setLastTime_out (t : Nat) : (s.setLastTime t).out = s.out := rfl
@[simp] theorem setLastTime_cpu (t : Nat) : (s.setLastTime t).cpu = s.cpu := rfl
@[simp] theorem setLastTime_mem (t : Nat) : (s.setLastTime t).mem = s.mem := rfl
@[simp] theorem setLastTime_loopActive (t : Nat) : (s.setLastTime t).loopActive = s.loopActive := rfl
@[simp] theorem setLastTime_now (t : Nat) : (s.setLastTime t).now = s.now := rfl
@[simp] theorem setLastTime_keysDown (t : Nat) : (s.setLastTime t).keysDown = s.keysDown := rfl
@[simp] theorem setLastTime_requests (t : Nat) : (s.setLastTime t).requests = s.requests := rfl

/-! `State.reschedule`. -/

@[simp] theorem reschedule_started : (s.reschedule).started = s.started := rfl
@[simp] theorem reschedule_frameHalf : (s.reschedule).frameHalf = otherHalf s.frameHalf := rfl
@[simp] theorem reschedule_lastTime : (s.reschedule).lastTime = s.lastTime := rfl
@[simp] theorem reschedule_nextInterruptTime : (s.reschedule).nextInterruptTime = s.nextInterruptTime + halfFrameDuration := rfl
@[simp] theorem reschedule_port0 : (s.reschedule).port0 = s.port0 := rfl
@[simp] theorem reschedule_port1 : (s.reschedule).port1 = s.port1 := rfl
@[simp] theorem reschedule_port2 : (s.reschedule).port2 = s.port2 := rfl
@[simp] theorem reschedule_shiftData : (s.reschedule).shiftData = s.shiftData := rfl
@[simp] theorem reschedule_shiftAmount : (s.reschedule).shiftAmount = s.shiftAmount := rfl
@[simp] theorem reschedule_latch3Prev : (s.reschedule).latch3Prev = s.latch3Prev := rfl
@[simp] theorem reschedule_latch5Prev : (s.reschedule).latch5Prev = s.latch5Prev := rfl
@[simp] theorem reschedule_framebuffer : (s.reschedule).framebuffer = s.framebuffer := rfl
@[simp] theorem reschedule_out : (s.reschedule).out = s.out := rfl
@[simp] theorem reschedule_cpu : (s.reschedule).cpu = s.cpu := rfl
@[simp] theorem reschedule_mem : (s.reschedule).mem = s.mem := rfl
@[simp] theorem reschedule_loopActive : (s.reschedule).loopActive = s.loopActive := rfl
@[simp] theorem reschedule_now : (s.reschedule).now = s.now := rfl
@[simp] theorem reschedule_keysDown : (s.reschedule).keysDown = s.keysDown := rfl
@[simp] theorem reschedule_requests : (s.reschedule).requests = s.requests := rfl

/-! `State.startClock`. -/

@[simp] theorem startClock_started : (s.startClock).started = true := rfl
@[simp] theorem startClock_frameHalf : (s.startClock).frameHalf = s.frameHalf := rfl
@[simp] theorem startClock_lastTime : (s.startClock).lastTime = s.now := rfl
@[simp] theorem startClock_nextInterruptTime : (s.startClock).nextInterruptTime = s.now + halfFrameDuration := rfl
@[simp] theorem startClock_port0 : (s.startClock).port0 = s.port0 := rfl
@[simp] theorem startClock_port1 : (s.startClock).port1 = s.port1 := rfl
@[simp] theorem startClock_port2 : (s.startClock).port2 = s.port2 := rfl
@[simp] theorem startClock_shiftData : (s.startClock).shiftData = s.shiftData := rfl
@[simp] theorem startClock_shiftAmount : (s.startClock).shiftAmount = s.shiftAmount := rfl
@[simp] theorem startClock_latch3Prev : (s.startClock).latch3Prev = s.latch3Prev := rfl
@[simp] theorem startClock_latch5Prev : (s.startClock).latch5Prev = s.latch5Prev := rfl
@[simp] theorem startClock_framebuffer : (s.startClock).framebuffer = s.framebuffer := rfl
@[simp] theorem startClock_out : (s.startClock).out = s.out := rfl
@[simp] theorem startClock_cpu : (s.startClock).cpu = s.cpu := rfl
@[simp] theorem startClock_mem : (s.startClock).mem = s.mem := rfl
@[simp] theorem startClock_loopActive : (s.startClock).loopActive = s.loopActive := rfl
@[simp] theorem startClock_now : (s.startClock).now = s.now := rfl
@[simp] theorem startClock_keysDown : (s.startClock).keysDown = s.keysDown := rfl
@[simp] theorem startClock_requests : (s.startClock).requests = s.requests := rfl

end Sys2Proof.Machine
end

