-- ==== Sys2Proof/Laws/Ops.lean ====
section
/-! SUPPORT. One lemma per shared operation that says what it can do: the framebuffer cells, edge detection, port reads
and writes, key events and the poll, interrupt injection, CPU steps and the budget loop. -/

namespace Sys2Proof.Machine

/-! The framebuffer. -/

@[simp] theorem cellAt_framebufferOf (f : Fin 224 → Fin 256 → Colour) (cx : Fin 224) (cy : Fin 256) :
    cellAt (framebufferOf f) cx cy = f cx cy := by
  unfold framebufferOf cellAt
  simp

@[simp] theorem cellAt_filled (c : Colour) (cx : Fin 224) (cy : Fin 256) : cellAt (Framebuffer.filled c) cx cy = c := by
  simp [cellAt, Framebuffer.filled]

/-- Two framebuffers with the same cells are equal. -/
theorem framebuffer_ext (f g : Framebuffer) (h : ∀ cx cy, cellAt f cx cy = cellAt g cx cy) : f = g := by
  refine Vector.ext fun i hi => Vector.ext fun j hj => ?_
  exact h ⟨i, hi⟩ ⟨j, hj⟩

/-- What a decode of the video bytes `lo` to `hi - 1` leaves in a cell. -/
theorem cellAt_decodeBytes (lo hi : Nat) (m : Memory) (fb : Framebuffer) (cx : Fin 224) (cy : Fin 256) :
    cellAt (decodeBytes lo hi m fb) cx cy =
      if lo ≤ pixelByte cx cy ∧ pixelByte cx cy < hi then
        overlayColour cx cy ((vramByte m (pixelByte cx cy)).getLsbD (pixelBit cy))
      else cellAt fb cx cy := by
  rw [decodeBytes, cellAt_framebufferOf]

/-- Every canvas cell has its byte in the video window. -/
theorem pixelByte_lt (cx : Fin 224) (cy : Fin 256) : pixelByte cx cy < 7168 := by
  have h1 := cx.isLt
  unfold pixelByte
  omega

/-- The colour of a pixel is one of the four. -/
theorem overlayColour_legal (cx : Fin 224) (cy : Fin 256) (lit : Bool) : LegalColour (overlayColour cx cy lit) := by
  unfold overlayColour LegalColour
  split
  · exact .inl rfl
  · split
    · exact .inr (.inr (.inl rfl))
    · split
      · exact .inr (.inr (.inr rfl))
      · exact .inr (.inl rfl)

/-- A decode of a half sets the framebuffer and nothing else. -/
theorem decodeHalf_eq (h : FrameHalf) (s : State) :
    decodeHalf h s = s.setFramebuffer (match h with
      | .top => decodeBytes 0 halfSplitByte s.mem s.framebuffer
      | .bottom => decodeBytes halfSplitByte vramSize s.mem s.framebuffer) := by
  cases h <;> rfl

/-! Edge detection. -/

/-- The rising bits are the trigger bits that were 0 and become 1. -/
theorem mem_risingBits (prev v : Byte) (b : Fin 4) :
    b ∈ risingBits prev v ↔ prev.getLsbD b.val = false ∧ v.getLsbD b.val = true := by
  unfold risingBits
  rw [List.mem_filter]
  simp only [Bool.and_eq_true, Bool.not_eq_true']
  refine and_iff_right ?_
  revert b
  decide

/-- The rising bits come in ascending order, each once. -/
theorem risingBits_sorted (prev v : Byte) : (risingBits prev v).Pairwise (· < ·) := by
  refine List.Pairwise.filter _ ?_
  decide

/-! Port writes. -/

/-- A port write changes only the registers behind the write ports and appends one-shots to the trace. -/
theorem portWrite_reach (p v : Byte) (s : State) :
    OnlyCpuReach s (portWrite p v s) ∧ (portWrite p v s).cpu = s.cpu ∧ (portWrite p v s).mem = s.mem ∧
      ∃ is : List SoundIndex, (portWrite p v s).out = s.out ++ is.map Event.oneShot := by
  unfold portWrite
  split
  · exact ⟨rfl, rfl, rfl, [], by simp [writeShiftAmount]⟩
  · split
    · exact ⟨rfl, rfl, rfl, _, rfl⟩
    · split
      · exact ⟨rfl, rfl, rfl, [], by simp [writeShiftData]⟩
      · split
        · exact ⟨rfl, rfl, rfl, _, rfl⟩
        · exact ⟨rfl, rfl, rfl, [], by simp⟩

/-! Reach is a preorder. -/

theorem OnlyCpuReach_refl (s : State) : OnlyCpuReach s s := rfl

theorem OnlyCpuReach_trans {s t u : State} (h : OnlyCpuReach s t) (h' : OnlyCpuReach t u) : OnlyCpuReach s u := by
  unfold OnlyCpuReach at *
  rw [h']
  rw [h]

/-! CPU steps. -/

/-- What one CPU step can do: it reaches only what R250 lets it reach, keeps memory canonical, and appends one-shots and
then its own record, which tells the cycles it used, at least one. -/
theorem runProgram_reach (p : CpuProgram) (s : State) :
    OnlyCpuReach s (runProgram p s).1 ∧ (memoryWf s.mem = true → memoryWf (runProgram p s).1.mem = true) ∧
      1 ≤ (runProgram p s).2 ∧
      ∃ is : List SoundIndex, (runProgram p s).1.out = s.out ++ is.map Event.oneShot ++ [.cpuStep (runProgram p s).2] := by
  induction p generalizing s with
  | finish regs extra => exact ⟨rfl, id, Nat.le_add_left 1 extra, [], by simp [runProgram]⟩
  | portRead p go ih => exact ih _ s
  | portWrite p v go ih =>
    obtain ⟨hr, hw, hc, is, ho⟩ := ih (Machine.portWrite p v s)
    obtain ⟨hr', -, hm, is', ho'⟩ := portWrite_reach p v s
    refine ⟨OnlyCpuReach_trans hr' hr, fun h => hw (hm ▸ h), hc, is' ++ is, ?_⟩
    rw [runProgram, ho, ho']
    simp
  | store a v go ih =>
    obtain ⟨hr, hw, hc, is, ho⟩ := ih (s.setMem (writeByte s.mem a v))
    have hs : OnlyCpuReach s (s.setMem (writeByte s.mem a v)) := rfl
    exact ⟨OnlyCpuReach_trans hs hr, fun h => hw (writeByte_wf s.mem a v h), hc, is, ho⟩

@[simp] theorem intVectors_append (es fs : List Event) : intVectors (es ++ fs) = intVectors es ++ intVectors fs :=
  List.filterMap_append

@[simp] theorem cpuCycles_append (es fs : List Event) : cpuCycles (es ++ fs) = cpuCycles es ++ cpuCycles fs :=
  List.filterMap_append

@[simp] theorem intVectors_oneShots (is : List SoundIndex) : intVectors (is.map Event.oneShot) = [] := by
  induction is with
  | nil => rfl
  | cons i is ih => simp [intVectors, eventVector]

@[simp] theorem cpuCycles_oneShots (is : List SoundIndex) : cpuCycles (is.map Event.oneShot) = [] := by
  induction is with
  | nil => rfl
  | cons i is ih => simp [cpuCycles, eventCycles]

/-- Events that come from running the CPU request no interrupt. -/
theorem intVectors_of_cpuEvents (es : List Event) (h : ∀ e ∈ es, isCpuEvent e = true) : intVectors es = [] := by
  refine List.filterMap_eq_nil_iff.2 fun e he => ?_
  have := h e he
  cases e <;> simp_all [isCpuEvent, eventVector]

/-- What the budget loop can do: it reaches only what the CPU reaches, keeps memory canonical, and appends groups of
one-shots and CPU steps. With enough fuel the cycles of those steps, on top of what was spent, meet the budget, and
without the last step they do not. -/
theorem runCycles_reach (core : CpuCore) (fuel budget spent : Nat) (s : State) :
    OnlyCpuReach s (runCycles core fuel budget spent s) ∧
      (memoryWf s.mem = true → memoryWf (runCycles core fuel budget spent s).mem = true) ∧
      ∃ es, (runCycles core fuel budget spent s).out = s.out ++ es ∧ CpuGroups es ∧
        (∀ c ∈ cpuCycles es, 1 ≤ c) ∧
        (budget ≤ spent + fuel → budget ≤ spent + (cpuCycles es).sum) ∧
        (es ≠ [] → spent + (cpuCycles es).dropLast.sum < budget) := by
  induction fuel generalizing spent s with
  | zero =>
    refine ⟨rfl, id, [], by simp [runCycles], ⟨by simp, .inl rfl⟩, by simp [cpuCycles], ?_, by simp⟩
    simp [cpuCycles]
  | succ fuel ih =>
    unfold runCycles
    split
    · rename_i hlt
      obtain ⟨hr, hw, hc, is, ho⟩ := runProgram_reach (core.step s.cpu s.mem) s
      obtain ⟨hr', hw', es, ho', ⟨hcpu, hlast⟩, hpos, henough, hover⟩ :=
        ih (spent + (cpuStep core s).2) (cpuStep core s).1
      have hstep : cpuCycles (is.map Event.oneShot ++ [Event.cpuStep (cpuStep core s).2] ++ es)
          = (cpuStep core s).2 :: cpuCycles es := by
        simp [cpuCycles, eventCycles]
      refine ⟨OnlyCpuReach_trans hr hr', fun h => hw' (hw h),
        is.map Event.oneShot ++ [.cpuStep (cpuStep core s).2] ++ es, ?_, ⟨?_, ?_⟩, ?_, ?_, ?_⟩
      · rw [ho', cpuStep, ho]
        simp
      · intro e he
        simp only [List.append_assoc, List.mem_append, List.mem_map, List.mem_singleton] at he
        rcases he with ⟨i, -, rfl⟩ | rfl | he
        · rfl
        · rfl
        · exact hcpu e he
      · refine .inr ?_
        rcases hlast with rfl | ⟨front, c, rfl⟩
        · exact ⟨is.map Event.oneShot, (cpuStep core s).2, by simp⟩
        · exact ⟨is.map Event.oneShot ++ [.cpuStep (cpuStep core s).2] ++ front, c, by simp⟩
      · rw [hstep]
        intro c hmem
        rcases List.mem_cons.1 hmem with rfl | hmem
        · exact hc
        · exact hpos c hmem
      · rw [hstep, List.sum_cons]
        intro h
        have hc' : 1 ≤ (cpuStep core s).2 := hc
        have := henough (by omega)
        omega
      · rw [hstep]
        intro _
        rcases hlast with rfl | ⟨front, c, rfl⟩
        · simpa [cpuCycles] using hlt
        · have := hover (by simp)
          have hne : cpuCycles (front ++ [.cpuStep c]) ≠ [] := by simp [cpuCycles, eventCycles]
          rw [List.dropLast_cons_of_ne_nil hne, List.sum_cons]
          omega
    · rename_i hge
      refine ⟨rfl, id, [], by simp, ⟨by simp, .inl rfl⟩, by simp [cpuCycles], ?_, by simp⟩
      intro _
      simp only [cpuCycles, List.filterMap_nil, List.sum_nil]
      omega

/-- With enough fuel the budget loop is the loop of R127. -/
theorem runCycles_cpuRun (core : CpuCore) (fuel budget spent : Nat) (s : State) (h : budget ≤ spent + fuel) :
    CpuRun core budget spent s (runCycles core fuel budget spent s) := by
  induction fuel generalizing spent s with
  | zero => exact .done h
  | succ fuel ih =>
    unfold runCycles
    split
    · rename_i hlt
      have hc : 1 ≤ (cpuStep core s).2 := (runProgram_reach (core.step s.cpu s.mem) s).2.2.1
      exact .step hlt (ih _ _ (by omega))
    · exact .done (by omega)

/-! Interrupt injection. -/

/-- What a byte reads as after cells are stored one after the other. -/
theorem readByte_storeCells (cells : List Host.Cell) (m : Memory) (a : Nat) (h : memoryWf m = true) :
    readByte (storeCells m cells) a = lastStored cells a (readByte m a) := by
  induction cells generalizing m with
  | nil => rfl
  | cons c cs ih =>
    refine (ih _ (writeByte_wf m c.1 c.2 h)).trans ?_
    rw [readByte_writeByte m c.1 a c.2 h]
    simp only [lastStored, List.foldl_cons, eq_comm]

/-- What an injection does: the request event, the toggle, the reschedule; the CPU core and its memory may change. -/
theorem injectInterrupt_reach (core : CpuCore) (s : State) :
    injectInterrupt core s = { s with
        out := s.out ++ [.intReq (halfVector s.frameHalf)], frameHalf := otherHalf s.frameHalf,
        nextInterruptTime := s.nextInterruptTime + halfFrameDuration,
        cpu := (injectInterrupt core s).cpu, mem := (injectInterrupt core s).mem } ∧
      (memoryWf s.mem = true → memoryWf (injectInterrupt core s).mem = true) :=
  ⟨rfl, storeCells_wf _ s.mem⟩

/-! Key events and the poll. -/

/-- A key event writes one input latch and nothing else. -/
theorem handleKeyChange_reach (k : LogicalKey) (down : Bool) (s : State) :
    handleKeyChange k down s =
      { s with port1 := (handleKeyChange k down s).port1, port2 := (handleKeyChange k down s).port2 } := by
  cases k <;> rfl

/-- Polling any keys writes the two input latches and nothing else. -/
theorem foldl_pollKey_reach (ks : List LogicalKey) (s : State) :
    ks.foldl pollKey s = { s with port1 := (ks.foldl pollKey s).port1, port2 := (ks.foldl pollKey s).port2 } := by
  induction ks generalizing s with
  | nil => rfl
  | cons k ks ih =>
    rw [List.foldl_cons, ih, pollKey, handleKeyChange_reach]

/-- A poll writes the two input latches and nothing else. -/
theorem pollKeys_reach (s : State) :
    pollKeys s = { s with port1 := (pollKeys s).port1, port2 := (pollKeys s).port2 } :=
  foldl_pollKey_reach allKeys s

/-- A latch bit after a key event on a one-bit mask. -/
theorem getLsbD_setKeyBit (n k : Nat) (down : Bool) (latch : Byte) (hn : n < 8) (hk : k < 8) :
    (setKeyBit (BitVec.twoPow 8 n) down latch).getLsbD k = if k = n then down else latch.getLsbD k := by
  unfold setKeyBit
  cases down <;> by_cases h : k = n <;> simp [h, hn, hk]

end Sys2Proof.Machine
end

