-- ==== Sys2Proof/Laws/PerInstr.lean ====
section
/-! SUPPORT. Facts about every operation as syntax, one lemma per constructor of `Instr`. -/

namespace Sys2Proof.Laws

/-- The word of a well-formed operation matches its row of spec/opcode_table.json. -/
def TableRowLaw.Statement (i : Instr) : Prop := i.WellFormed → encode i &&& i.tableRow.mask = i.tableRow.pattern

/-- A port write's word under a mask that leaves the value out does not depend on the value. -/
theorem portWord_and_mask (p v : Byte) (m : OpWord) (hm : ∀ k, k < 8 → m.getLsbD k = false) :
    portWord true p v &&& m = portWord true p 0#8 &&& m := by
  refine BitVec.eq_of_getLsbD_eq fun k hk => ?_
  by_cases h : k < 8
  · simp [portWord, hm k h]
  · have hv : v.getLsbD k = false := BitVec.getLsbD_of_ge v k (by omega)
    simp [portWord, hv]

namespace TableRowLaw

theorem in0 : Statement .in0 := fun _ => rfl

theorem in1 : Statement .in1 := fun _ => rfl

theorem in2 : Statement .in2 := fun _ => rfl

theorem in3 : Statement .in3 := fun _ => rfl

theorem inUnmapped4 (p : Byte) : Statement (.inUnmapped4 p) := by
  unfold Statement; revert p; decide

theorem inUnmapped8 (p : Byte) : Statement (.inUnmapped8 p) := by
  unfold Statement; revert p; decide

theorem inUnmapped16 (p : Byte) : Statement (.inUnmapped16 p) := by
  unfold Statement; revert p; decide

theorem inUnmapped32 (p : Byte) : Statement (.inUnmapped32 p) := by
  unfold Statement; revert p; decide

theorem inUnmapped64 (p : Byte) : Statement (.inUnmapped64 p) := by
  unfold Statement; revert p; decide

theorem inUnmapped128 (p : Byte) : Statement (.inUnmapped128 p) := by
  unfold Statement; revert p; decide

theorem out2 (v : Byte) : Statement (.out2 v) := fun _ => portWord_and_mask 2#8 v 0xFFF00#20 (by decide)

theorem out3 (v : Byte) : Statement (.out3 v) := fun _ => portWord_and_mask 3#8 v 0xFFF00#20 (by decide)

theorem out4 (v : Byte) : Statement (.out4 v) := fun _ => portWord_and_mask 4#8 v 0xFFF00#20 (by decide)

theorem out5 (v : Byte) : Statement (.out5 v) := fun _ => portWord_and_mask 5#8 v 0xFFF00#20 (by decide)

theorem outUnmapped0 (p v : Byte) : Statement (.outUnmapped0 p v) := fun h => by
  have hp : ∀ q : Byte, (Instr.outUnmapped0 q 0#8).WellFormed → encode (.outUnmapped0 q 0#8) &&& (Instr.outUnmapped0 q 0#8).tableRow.mask = (Instr.outUnmapped0 q 0#8).tableRow.pattern := by decide
  exact (portWord_and_mask p v 0xFFE00#20 (by decide)).trans (hp p h)

theorem outUnmapped6 (p v : Byte) : Statement (.outUnmapped6 p v) := fun h => by
  have hp : ∀ q : Byte, (Instr.outUnmapped6 q 0#8).WellFormed → encode (.outUnmapped6 q 0#8) &&& (Instr.outUnmapped6 q 0#8).tableRow.mask = (Instr.outUnmapped6 q 0#8).tableRow.pattern := by decide
  exact (portWord_and_mask p v 0xFFE00#20 (by decide)).trans (hp p h)

theorem outUnmapped8 (p v : Byte) : Statement (.outUnmapped8 p v) := fun h => by
  have hp : ∀ q : Byte, (Instr.outUnmapped8 q 0#8).WellFormed → encode (.outUnmapped8 q 0#8) &&& (Instr.outUnmapped8 q 0#8).tableRow.mask = (Instr.outUnmapped8 q 0#8).tableRow.pattern := by decide
  exact (portWord_and_mask p v 0xFF800#20 (by decide)).trans (hp p h)

theorem outUnmapped16 (p v : Byte) : Statement (.outUnmapped16 p v) := fun h => by
  have hp : ∀ q : Byte, (Instr.outUnmapped16 q 0#8).WellFormed → encode (.outUnmapped16 q 0#8) &&& (Instr.outUnmapped16 q 0#8).tableRow.mask = (Instr.outUnmapped16 q 0#8).tableRow.pattern := by decide
  exact (portWord_and_mask p v 0xFF000#20 (by decide)).trans (hp p h)

theorem outUnmapped32 (p v : Byte) : Statement (.outUnmapped32 p v) := fun h => by
  have hp : ∀ q : Byte, (Instr.outUnmapped32 q 0#8).WellFormed → encode (.outUnmapped32 q 0#8) &&& (Instr.outUnmapped32 q 0#8).tableRow.mask = (Instr.outUnmapped32 q 0#8).tableRow.pattern := by decide
  exact (portWord_and_mask p v 0xFE000#20 (by decide)).trans (hp p h)

theorem outUnmapped64 (p v : Byte) : Statement (.outUnmapped64 p v) := fun h => by
  have hp : ∀ q : Byte, (Instr.outUnmapped64 q 0#8).WellFormed → encode (.outUnmapped64 q 0#8) &&& (Instr.outUnmapped64 q 0#8).tableRow.mask = (Instr.outUnmapped64 q 0#8).tableRow.pattern := by decide
  exact (portWord_and_mask p v 0xFC000#20 (by decide)).trans (hp p h)

theorem outUnmapped128 (p v : Byte) : Statement (.outUnmapped128 p v) := fun h => by
  have hp : ∀ q : Byte, (Instr.outUnmapped128 q 0#8).WellFormed → encode (.outUnmapped128 q 0#8) &&& (Instr.outUnmapped128 q 0#8).tableRow.mask = (Instr.outUnmapped128 q 0#8).tableRow.pattern := by decide
  exact (portWord_and_mask p v 0xF8000#20 (by decide)).trans (hp p h)

theorem keyP1Start (down : Bool) : Statement (.keyP1Start down) := by
  unfold Statement; revert down; decide

theorem keyP1Shoot (down : Bool) : Statement (.keyP1Shoot down) := by
  unfold Statement; revert down; decide

theorem keyP1Left (down : Bool) : Statement (.keyP1Left down) := by
  unfold Statement; revert down; decide

theorem keyP1Right (down : Bool) : Statement (.keyP1Right down) := by
  unfold Statement; revert down; decide

theorem keyP2Start (down : Bool) : Statement (.keyP2Start down) := by
  unfold Statement; revert down; decide

theorem keyP2Shoot (down : Bool) : Statement (.keyP2Shoot down) := by
  unfold Statement; revert down; decide

theorem keyP2Left (down : Bool) : Statement (.keyP2Left down) := by
  unfold Statement; revert down; decide

theorem keyP2Right (down : Bool) : Statement (.keyP2Right down) := by
  unfold Statement; revert down; decide

theorem keyCoin (down : Bool) : Statement (.keyCoin down) := by
  unfold Statement; revert down; decide

theorem keyTilt (down : Bool) : Statement (.keyTilt down) := by
  unfold Statement; revert down; decide

theorem tick : Statement .tick := fun _ => rfl

theorem decodeTop : Statement .decodeTop := fun _ => rfl

theorem decodeBottom : Statement .decodeBottom := fun _ => rfl

theorem decodeFull : Statement .decodeFull := fun _ => rfl

theorem loopStart (i : SoundIndex) : Statement (.loopStart i) := by
  unfold Statement; revert i; decide

theorem loopStop (i : SoundIndex) : Statement (.loopStop i) := by
  unfold Statement; revert i; decide

theorem poll : Statement .poll := fun _ => rfl

theorem reset : Statement .reset := fun _ => rfl

end TableRowLaw

end Sys2Proof.Laws
end

