-- ==== Sys2Proof/Tests/Slice0.lean ====
section
/-! SUPPORT. The model's own tests. Expected values are those of spec/95_test_vectors.md (its table is named at each
test) or a word written out from the formats of spec/30_encoding.md. The last part shows, for every obligation that has
hypotheses, a state and operands that meet them. -/

namespace Sys2Proof.Tests

open Machine

/-! Helpers. -/

/-- A field of the next state, if there is one. -/
def field {α : Type} (f : State → α) : Result → Option α
  | .next t => some (f t)
  | .fault _ => none
  | .refused _ => none

/-- The answer is a refusal. -/
def refuses : Result → Option Refusal
  | .refused r => some r
  | .next _ => none
  | .fault _ => none

/-- One step on the operation of word `w`, issued after `s`. -/
def issue (w : Nat) (s : State) : Result := step (s.withFetchWord 24 w)

/-- The start state of table 2.1. -/
def readState : State :=
  { State.reset with
    port0 := 0x0E#8, port1 := 0x11#8, port2 := 0x24#8, shiftData := 0xCDAB#16, shiftAmount := 3#3,
    cpu := { accumulator := 0xFF#8, interruptEnabled := false, internal := 0 } }

/-- The state after reset with these bytes in memory. -/
def withMemory (cells : List Host.Cell) : State := { State.reset with mem := storeCells [] cells }

/-- A toy CPU core of table 2.9: every step reports `c` cycles, at least one, and does no I/O. -/
def toyCore (c : Nat) : CpuCore where
  step := fun r _ => .finish r (c - 1)
  requestInterrupt := fun r _ _ => { regs := r, stores := [] }

/-- The toy CPU core of program P4: every step executes `IN 1` and reports 10 cycles. -/
def in1Core : CpuCore where
  step := fun r _ => .portRead 1#8 fun v => .finish { r with accumulator := v } 9
  requestInterrupt := fun r _ _ => { regs := r, stores := [] }

/-- The start of a `TICK`: `last_time`, `next_interrupt_time`, `frame_half`, the enable flag and `now`. -/
def clockState (last due : Nat) (half : FrameHalf) (ie : Bool) (now : Nat) : State :=
  { State.reset with
    started := true, lastTime := last, nextInterruptTime := due, frameHalf := half, now := now,
    cpu := { accumulator := 0x00#8, interruptEnabled := ie, internal := 0 } }

/-- What table 2.9 tells of an iteration: vectors, the cycles of the steps, `frame_half`, `next_interrupt_time`. -/
def clockRow (t : State) : List IntVector × List Nat × FrameHalf × Nat :=
  (intVectors t.out, cpuCycles t.out, t.frameHalf, t.nextInterruptTime)

/-! WellFormed: an operand outside its row's ports is refused, row by row. -/

theorem test_wf_refuses_in :
    ¬(Instr.inUnmapped4 3#8).WellFormed ∧ ¬(Instr.inUnmapped4 8#8).WellFormed ∧ ¬(Instr.inUnmapped8 7#8).WellFormed ∧
    ¬(Instr.inUnmapped8 16#8).WellFormed ∧ ¬(Instr.inUnmapped16 15#8).WellFormed ∧
    ¬(Instr.inUnmapped16 32#8).WellFormed ∧ ¬(Instr.inUnmapped32 31#8).WellFormed ∧
    ¬(Instr.inUnmapped32 64#8).WellFormed ∧ ¬(Instr.inUnmapped64 63#8).WellFormed ∧
    ¬(Instr.inUnmapped64 128#8).WellFormed ∧ ¬(Instr.inUnmapped128 127#8).WellFormed := by decide

theorem test_wf_refuses_out :
    ¬(Instr.outUnmapped0 2#8 0#8).WellFormed ∧ ¬(Instr.outUnmapped6 5#8 0#8).WellFormed ∧
    ¬(Instr.outUnmapped6 8#8 0#8).WellFormed ∧ ¬(Instr.outUnmapped8 7#8 0#8).WellFormed ∧
    ¬(Instr.outUnmapped8 16#8 0#8).WellFormed ∧ ¬(Instr.outUnmapped16 15#8 0#8).WellFormed ∧
    ¬(Instr.outUnmapped16 32#8 0#8).WellFormed ∧ ¬(Instr.outUnmapped32 31#8 0#8).WellFormed ∧
    ¬(Instr.outUnmapped32 64#8 0#8).WellFormed ∧ ¬(Instr.outUnmapped64 63#8 0#8).WellFormed ∧
    ¬(Instr.outUnmapped64 128#8 0#8).WellFormed ∧ ¬(Instr.outUnmapped128 127#8 0#8).WellFormed := by decide

/-! Decoding: one word per constructor, written out from the formats as class, then the fields. -/

/-- Format P reads: class 000, dir 0, port, data 0. -/
theorem test_decode_in :
    decode 0b000_0_00000000_00000000#20 = .ok .in0 ∧ decode 0b000_0_00000001_00000000#20 = .ok .in1 ∧
    decode 0b000_0_00000010_00000000#20 = .ok .in2 ∧ decode 0b000_0_00000011_00000000#20 = .ok .in3 ∧
    decode 0b000_0_00000101_00000000#20 = .ok (.inUnmapped4 5#8) ∧
    decode 0b000_0_00001010_00000000#20 = .ok (.inUnmapped8 10#8) ∧
    decode 0b000_0_00010001_00000000#20 = .ok (.inUnmapped16 17#8) ∧
    decode 0b000_0_00100010_00000000#20 = .ok (.inUnmapped32 34#8) ∧
    decode 0b000_0_01000100_00000000#20 = .ok (.inUnmapped64 68#8) ∧
    decode 0b000_0_10001000_00000000#20 = .ok (.inUnmapped128 136#8) := by decide

/-- Format P writes: class 000, dir 1, port, data. -/
theorem test_decode_out :
    decode 0b000_1_00000010_10000001#20 = .ok (.out2 0x81#8) ∧ decode 0b000_1_00000011_10000001#20 = .ok (.out3 0x81#8) ∧
    decode 0b000_1_00000100_10000001#20 = .ok (.out4 0x81#8) ∧ decode 0b000_1_00000101_10000001#20 = .ok (.out5 0x81#8) ∧
    decode 0b000_1_00000001_10000001#20 = .ok (.outUnmapped0 1#8 0x81#8) ∧
    decode 0b000_1_00000111_10000001#20 = .ok (.outUnmapped6 7#8 0x81#8) ∧
    decode 0b000_1_00001010_10000001#20 = .ok (.outUnmapped8 10#8 0x81#8) ∧
    decode 0b000_1_00010001_10000001#20 = .ok (.outUnmapped16 17#8 0x81#8) ∧
    decode 0b000_1_00100010_10000001#20 = .ok (.outUnmapped32 34#8 0x81#8) ∧
    decode 0b000_1_01000100_10000001#20 = .ok (.outUnmapped64 68#8 0x81#8) ∧
    decode 0b000_1_10001000_10000001#20 = .ok (.outUnmapped128 136#8 0x81#8) := by decide

/-- Format K: class 001, twelve zeros, d, k. -/
theorem test_decode_key :
    decode 0b001_000000000000_1_0000#20 = .ok (.keyP1Start true) ∧
    decode 0b001_000000000000_0_0001#20 = .ok (.keyP1Shoot false) ∧
    decode 0b001_000000000000_1_0010#20 = .ok (.keyP1Left true) ∧
    decode 0b001_000000000000_0_0011#20 = .ok (.keyP1Right false) ∧
    decode 0b001_000000000000_1_0100#20 = .ok (.keyP2Start true) ∧
    decode 0b001_000000000000_0_0101#20 = .ok (.keyP2Shoot false) ∧
    decode 0b001_000000000000_1_0110#20 = .ok (.keyP2Left true) ∧
    decode 0b001_000000000000_0_0111#20 = .ok (.keyP2Right false) ∧
    decode 0b001_000000000000_1_1000#20 = .ok (.keyCoin true) ∧
    decode 0b001_000000000000_0_1001#20 = .ok (.keyTilt false) := by decide

/-- Formats T, D, L, Q and Z: the class, zeros, and the fields. -/
theorem test_decode_rest :
    decode 0b010_00000000000000000#20 = .ok .tick ∧ decode 0b011_000000000000000_00#20 = .ok .decodeTop ∧
    decode 0b011_000000000000000_01#20 = .ok .decodeBottom ∧ decode 0b011_000000000000000_10#20 = .ok .decodeFull ∧
    decode 0b100_0000000000000_0_110#20 = .ok (.loopStart 6) ∧ decode 0b100_0000000000000_1_011#20 = .ok (.loopStop 3) ∧
    decode 0b101_00000000000000000#20 = .ok .poll ∧ decode 0b110_00000000000000000#20 = .ok .reset := by decide

/-- The encoder writes the words of tables 2.1, 2.3, 2.5 and 2.6. -/
theorem test_encode :
    encode .in3 = 0x00300#20 ∧ encode (.inUnmapped128 255#8) = 0x0FF00#20 ∧ encode (.out4 0xAB#8) = 0x104AB#20 ∧
    encode (.outUnmapped128 255#8 0x55#8) = 0x1FF55#20 ∧ encode (.keyTilt true) = 0x20019#20 ∧
    encode (.keyCoin false) = 0x20008#20 ∧ encode .decodeFull = 0x60002#20 ∧ encode (.loopStart 7) = 0x80007#20 ∧
    encode (.loopStop 0) = 0x80008#20 ∧ encode .reset = 0xC0000#20 := by decide

/-- Reserved words, table 2.10 and R98: each reason at the edge of its range, and the whole-number words beyond 20 bits. -/
theorem test_decode_reserved :
    decode 0xE0000#20 = .error .reservedClass ∧ decode 0xFFFFF#20 = .error .reservedClass ∧
    decode 0x2001A#20 = .error .reservedKey ∧ decode 0x2000F#20 = .error .reservedKey ∧
    decode 0x20020#20 = .error .mustBeZero ∧ decode 0x60003#20 = .error .reservedHalf ∧
    decode 0x60004#20 = .error .mustBeZero ∧ decode 0x80010#20 = .error .mustBeZero ∧
    decode 0x40001#20 = .error .mustBeZero ∧ decode 0x50000#20 = .error .mustBeZero ∧
    decode 0xA0001#20 = .error .mustBeZero ∧ decode 0xD0000#20 = .error .mustBeZero ∧
    decode 0x00301#20 = .error .readData ∧ decode 0x0FF80#20 = .error .readData ∧
    decodeTableWord 24 0x100000 = none ∧ decodeTableWord 24 0x00300 = some .in3 := by decide

/-! Port reads, table 2.1: the result stands in the accumulator and the latches stay. -/

theorem test_in0 : field (fun t => (t.cpu.accumulator, t.port0)) (issue 0x00000 readState) = some (0x0E#8, 0x0E#8) := by
  decide

theorem test_in1 : field (fun t => (t.cpu.accumulator, t.port1)) (issue 0x00100 readState) = some (0x11#8, 0x11#8) := by
  decide

theorem test_in2 : field (fun t => (t.cpu.accumulator, t.port2)) (issue 0x00200 readState) = some (0x24#8, 0x24#8) := by
  decide

theorem test_in3 :
    field (fun t => (t.cpu.accumulator, t.shiftData, t.shiftAmount)) (issue 0x00300 readState) =
      some (0x6D#8, 0xCDAB#16, 3#3) := by decide

/-- Table 2.2, rows 0xCDAB, 0x8001 and 0x00FF at the amounts 0, 1, 4 and 7. -/
theorem test_in3_window :
    shiftWindow 0xCDAB#16 0#3 = 0xCD#8 ∧ shiftWindow 0xCDAB#16 1#3 = 0x9B#8 ∧ shiftWindow 0xCDAB#16 4#3 = 0xDA#8 ∧
    shiftWindow 0xCDAB#16 7#3 = 0xD5#8 ∧ shiftWindow 0x8001#16 0#3 = 0x80#8 ∧ shiftWindow 0x8001#16 1#3 = 0x00#8 ∧
    shiftWindow 0x8001#16 7#3 = 0x00#8 ∧ shiftWindow 0x00FF#16 0#3 = 0x00#8 ∧ shiftWindow 0x00FF#16 7#3 = 0x7F#8 := by
  decide

/-- Table 2.1, `IN 4`, `IN 7`, `IN 8` and `IN 255`, and one port of each other row. -/
theorem test_in_unmapped :
    field (·.cpu.accumulator) (issue 0x00400 readState) = some 0x00#8 ∧
    field (·.cpu.accumulator) (issue 0x00700 readState) = some 0x00#8 ∧
    field (·.cpu.accumulator) (issue 0x00800 readState) = some 0x00#8 ∧
    field (·.cpu.accumulator) (issue 0x01000 readState) = some 0x00#8 ∧
    field (·.cpu.accumulator) (issue 0x02000 readState) = some 0x00#8 ∧
    field (·.cpu.accumulator) (issue 0x04000 readState) = some 0x00#8 ∧
    field (·.cpu.accumulator) (issue 0x0FF00 readState) = some 0x00#8 := by decide

/-! Port writes, tables 2.3 and 2.4. -/

theorem test_out2 :
    field (·.shiftAmount) (issue 0x10207 State.reset) = some 7#3 ∧
    field (·.shiftAmount) (issue 0x10208 State.reset) = some 0#3 ∧
    field (·.shiftAmount) (issue 0x1020A State.reset) = some 2#3 ∧
    field (fun t => (t.shiftAmount, t.port2)) (issue 0x102FF State.reset) = some (7#3, 0x00#8) := by decide

/-- `latch3_prev` 0x05 and `OUT 3, 0x0A`; 0xF0 and 0x0F; 0x01 and 0x01. -/
theorem test_out3 :
    field (fun t => (t.latch3Prev, t.out)) (issue 0x1030A { State.reset with latch3Prev := 0x05#8 }) =
      some (0x0A#8, [.oneShot 1, .oneShot 3]) ∧
    field (fun t => (t.latch3Prev, t.out)) (issue 0x1030F { State.reset with latch3Prev := 0xF0#8 }) =
      some (0x0F#8, [.oneShot 0, .oneShot 1, .oneShot 2, .oneShot 3]) ∧
    field (fun t => (t.latch3Prev, t.out)) (issue 0x10301 { State.reset with latch3Prev := 0x01#8 }) =
      some (0x01#8, []) := by decide

theorem test_out4 :
    field (·.shiftData) (issue 0x104AB State.reset) = some 0xAB00#16 ∧
    field (·.shiftData) (issue 0x104CD { State.reset with shiftData := 0xAB00#16 }) = some 0xCDAB#16 ∧
    field (·.shiftData) (issue 0x10400 { State.reset with shiftData := 0xFFFF#16 }) = some 0x00FF#16 := by decide

/-- `latch5_prev` 0x00 and `OUT 5, 0x11`; 0x11 and 0x1F; 0x1F and 0x10. -/
theorem test_out5 :
    field (fun t => (t.latch5Prev, t.out)) (issue 0x10511 State.reset) = some (0x11#8, [.oneShot 4]) ∧
    field (fun t => (t.latch5Prev, t.out)) (issue 0x1051F { State.reset with latch5Prev := 0x11#8 }) =
      some (0x1F#8, [.oneShot 5, .oneShot 6, .oneShot 7]) ∧
    field (fun t => (t.latch5Prev, t.out)) (issue 0x10510 { State.reset with latch5Prev := 0x1F#8 }) =
      some (0x10#8, []) := by decide

/-- `OUT 0`, `OUT 1`, `OUT 6`, `OUT 7` and `OUT 255` leave the latches, the shift register and the trace. -/
theorem test_out_unmapped :
    field (fun t => (t.port0, t.port1, t.port2)) (issue 0x100FF readState) = some (0x0E#8, 0x11#8, 0x24#8) ∧
    field (fun t => (t.port0, t.port1, t.port2)) (issue 0x101FF readState) = some (0x0E#8, 0x11#8, 0x24#8) ∧
    field (fun t => (t.shiftAmount, t.shiftData, t.out)) (issue 0x106FF readState) = some (3#3, 0xCDAB#16, []) ∧
    field (fun t => (t.shiftAmount, t.shiftData, t.out)) (issue 0x10701 readState) = some (3#3, 0xCDAB#16, []) ∧
    field (fun t => (t.latch3Prev, t.latch5Prev, t.out)) (issue 0x1FF55 readState) = some (0x00#8, 0x00#8, []) := by
  decide

/-! Looped playback, table 2.5. -/

theorem test_loopStart :
    field (fun t => (t.loopActive.toList, t.out))
        (issue 0x80007 { State.reset with loopActive := Vector.set (Vector.replicate 8 false) 0 true }) =
      some ([true, false, false, false, false, false, false, true], [.loopStart 7]) := by decide

theorem test_loopStop :
    field (fun t => (t.loopActive.toList, t.out))
        (issue 0x80008 { State.reset with loopActive := #v[true, false, false, false, false, false, false, true] }) =
      some ([false, false, false, false, false, false, false, true], [.loopStop 0]) := by decide

/-! Keys, table 2.6. -/

/-- Each key down, from latches 0. -/
theorem test_keys_down :
    field (fun t => (t.port1, t.port2)) (issue 0x20010 State.reset) = some (0x04#8, 0x00#8) ∧
    field (fun t => (t.port1, t.port2)) (issue 0x20011 State.reset) = some (0x10#8, 0x00#8) ∧
    field (fun t => (t.port1, t.port2)) (issue 0x20012 State.reset) = some (0x20#8, 0x00#8) ∧
    field (fun t => (t.port1, t.port2)) (issue 0x20013 State.reset) = some (0x40#8, 0x00#8) ∧
    field (fun t => (t.port1, t.port2)) (issue 0x20014 State.reset) = some (0x02#8, 0x00#8) ∧
    field (fun t => (t.port1, t.port2)) (issue 0x20015 State.reset) = some (0x00#8, 0x10#8) ∧
    field (fun t => (t.port1, t.port2)) (issue 0x20016 State.reset) = some (0x00#8, 0x20#8) ∧
    field (fun t => (t.port1, t.port2)) (issue 0x20017 State.reset) = some (0x00#8, 0x40#8) ∧
    field (fun t => (t.port1, t.port2)) (issue 0x20018 State.reset) = some (0x01#8, 0x00#8) ∧
    field (fun t => (t.port1, t.port2)) (issue 0x20019 State.reset) = some (0x00#8, 0x04#8) := by decide

/-- `KEY P1_RIGHT, up` from 0x77, 0x74; `KEY P1_LEFT, up` from 0x30; `KEY COIN, up` from 0. -/
theorem test_keys_up :
    field (fun t => (t.port1, t.port2)) (issue 0x20003 { State.reset with port1 := 0x77#8, port2 := 0x74#8 }) =
      some (0x37#8, 0x74#8) ∧
    field (fun t => (t.port1, t.port2)) (issue 0x20002 { State.reset with port1 := 0x30#8 }) = some (0x10#8, 0x00#8) ∧
    field (fun t => (t.port1, t.port2)) (issue 0x20008 State.reset) = some (0x00#8, 0x00#8) := by decide

/-- The last three rows of table 2.6. -/
theorem test_poll :
    field (fun t => (t.port1, t.port2)) (issue 0xA0000 { State.reset with port1 := 0x77#8, port2 := 0x74#8 }) =
      some (0x00#8, 0x00#8) ∧
    field (fun t => (t.port1, t.port2)) (issue 0xA0000 { State.reset with keysDown := [.coin, .p1Shoot, .p2Left] }) =
      some (0x11#8, 0x20#8) ∧
    field (fun t => (t.port1, t.port2))
      (issue 0xA0000 { State.reset with port1 := 0x11#8, port2 := 0x20#8, keysDown := [.tilt] }) =
      some (0x00#8, 0x04#8) := by decide

/-! The decoder, tables 2.7 and 2.8 and program P5. -/

/-- A cell of the framebuffer after a decode of the video bytes `lo` to `hi - 1`. -/
def cellAfter (lo hi : Nat) (cells : List Host.Cell) (cx : Fin 224) (cy : Fin 256) : Colour :=
  cellAt (decodeBytes lo hi (storeCells [] cells) State.reset.framebuffer) cx cy

/-- Rows of table 2.7 at the edges of the colour zones. -/
theorem test_decodeFull_pixels :
    cellAfter 0 7168 [(0x2400, 0x01#8)] 0 255 = colorWhite ∧ cellAfter 0 7168 [(0x2400, 0x80#8)] 0 248 = colorWhite ∧
    cellAfter 0 7168 [(0x241F, 0x80#8)] 0 0 = colorWhite ∧ cellAfter 0 7168 [(0x3FFF, 0x80#8)] 223 0 = colorWhite ∧
    cellAfter 0 7168 [(0x2418, 0x01#8)] 0 63 = colorRed ∧ cellAfter 0 7168 [(0x241B, 0x80#8)] 0 32 = colorRed ∧
    cellAfter 0 7168 [(0x241C, 0x01#8)] 0 31 = colorWhite ∧ cellAfter 0 7168 [(0x2417, 0x80#8)] 0 64 = colorWhite ∧
    cellAfter 0 7168 [(0x2402, 0x01#8)] 0 239 = colorGreen ∧ cellAfter 0 7168 [(0x2408, 0x80#8)] 0 184 = colorGreen ∧
    cellAfter 0 7168 [(0x2409, 0x01#8)] 0 183 = colorWhite ∧ cellAfter 0 7168 [(0x2401, 0x80#8)] 0 240 = colorWhite ∧
    cellAfter 0 7168 [(0x2601, 0x80#8)] 16 240 = colorGreen ∧ cellAfter 0 7168 [(0x25E0, 0x01#8)] 15 255 = colorWhite ∧
    cellAfter 0 7168 [(0x34A0, 0x01#8)] 133 255 = colorGreen ∧
    cellAfter 0 7168 [(0x34C0, 0x01#8)] 134 255 = colorWhite := by
  simp only [cellAfter, cellAt_decodeBytes]
  decide

/-- Byte 100 with 0xA5, the whole-byte row of table 2.7. -/
theorem test_decodeFull_byte :
    (cellAfter 0 7168 [(0x2464, 0xA5#8)] 3 223 = colorGreen ∧ cellAfter 0 7168 [(0x2464, 0xA5#8)] 3 222 = colorOff ∧
      cellAfter 0 7168 [(0x2464, 0xA5#8)] 3 221 = colorGreen ∧ cellAfter 0 7168 [(0x2464, 0xA5#8)] 3 220 = colorOff) ∧
    cellAfter 0 7168 [(0x2464, 0xA5#8)] 3 219 = colorOff ∧ cellAfter 0 7168 [(0x2464, 0xA5#8)] 3 218 = colorGreen ∧
    cellAfter 0 7168 [(0x2464, 0xA5#8)] 3 217 = colorOff ∧ cellAfter 0 7168 [(0x2464, 0xA5#8)] 3 216 = colorGreen := by
  simp only [cellAfter, cellAt_decodeBytes]
  decide

/-- The video memory of program P5. -/
def p5Memory : List Host.Cell := [(0x2400, 0x01#8), (0x3200, 0x01#8)]

/-- Step 1 of P5, and the last byte of the Top half (table 2.7). -/
theorem test_decodeTop :
    field (fun t => (cellAt t.framebuffer 0 255, cellAt t.framebuffer 112 255)) (issue 0x60000 (withMemory p5Memory)) =
      some (colorWhite, colorOff) ∧
    field (fun t => cellAt t.framebuffer 111 0) (issue 0x60000 (withMemory [(0x31FF, 0x80#8)])) = some colorWhite := by
  refine ⟨show some _ = some _ from ?_, show some _ = some _ from ?_⟩ <;>
    simp only [decodeTopHalf, setFramebuffer_framebuffer, cellAt_decodeBytes] <;> decide

/-- `DECODE Bottom` on P5's memory: the first byte of the Bottom half is decoded, byte 0 is not. -/
theorem test_decodeBottom :
    field (fun t => (cellAt t.framebuffer 0 255, cellAt t.framebuffer 112 255)) (issue 0x60001 (withMemory p5Memory)) =
      some (colorOff, colorGreen) := by
  refine show some _ = some _ from ?_
  simp only [decodeBottomHalf, setFramebuffer_framebuffer, cellAt_decodeBytes]
  decide

/-! The Machine Clock, table 2.9 and program P4. -/

/-- Row 3 with steps of 1000 cycles (nine of them, by hand, for the budget 8666), rows 4, 7 and 9. -/
theorem test_tick_rows :
    field clockRow (tickWith (toyCore 1000) (clockState 5000 9333 .top true 9333)) =
      some ([], [1000, 1000, 1000, 1000, 1000, 1000, 1000, 1000, 1000], .top, 9333) ∧
    field clockRow (tickWith (toyCore 7) (clockState 9333 9333 .top true 9334)) = some ([1#4], [7], .bottom, 17666) ∧
    field clockRow (tickWith (toyCore 7) (clockState 17666 17666 .bottom false 17667)) = some ([], [7], .bottom, 17666) ∧
    field clockRow (tickWith (toyCore 7) (clockState 30000 25999 .top true 30001)) = some ([1#4], [7], .bottom, 34332) :=
  ⟨by decide +kernel, by decide +kernel, by decide +kernel, by decide +kernel⟩

/-- Row 2 of P4: two steps see the latch of the last poll, and the poll comes after them. -/
theorem test_tick_polls_last :
    field (fun t => (t.cpu.accumulator, cpuCycles t.out, t.port1, t.lastTime))
      (tickWith in1Core { clockState 0 8333 .top false 10 with port1 := 0x01#8 }) =
      some (0x01#8, [10, 10], 0x00#8, 10) := by decide +kernel

/-- The first `TICK` after reset, issued as a word: row 1 of table 2.9 with `now` 1000. -/
theorem test_tick_first :
    field (fun t => (t.started, t.nextInterruptTime, t.lastTime, cpuCycles t.out, intVectors t.out))
      (issue 0x40000 { State.reset with now := 1000 }) = some (true, 9333, 1000, [], []) := by decide +kernel

/-- One CPU step that writes port 2, stores a byte and reads port 3: R251's calls in order, then its end. The window of
0xCDAB at amount 3 is 0x6D (table 2.2). -/
theorem test_cpu_step :
    (fun r : State × Nat => (r.1.shiftAmount, r.1.mem, r.1.cpu.accumulator, r.2))
      (runProgram (.portWrite 2#8 0x0B#8 (.store 0x2400 0xAA#8 (.portRead 3#8 fun v =>
        .finish { accumulator := v, interruptEnabled := true, internal := 7 } 9)))
        { State.reset with shiftData := 0xCDAB#16 }) =
      (3#3, [(0x2400, 0xAA#8)], 0x6D#8, 10) := by decide

/-- A toy core that pushes the vector in memory: the request reaches it. -/
theorem test_request_interrupt :
    (fun t : State => (t.mem, t.cpu.interruptEnabled))
      (requestInterrupt
        { step := fun r _ => .finish r 0, requestInterrupt := fun r _ v =>
          { regs := { r with interruptEnabled := false }, stores := [(0x2000, v.setWidth 8)] } } 2#4
        (clockState 0 0 .bottom true 1)) =
      ([(0x2000, 2#8)], false) := by decide

/-! Reset and refusals, table 2.10. -/

theorem test_reset :
    field (fun t => (t.port1, t.shiftData, t.shiftAmount)) (issue 0xC0000 readState) = some (0x00#8, 0x0000#16, 0#3) ∧
    field (fun t => (t.latch3Prev, t.out, t.started))
      (issue 0xC0000 { State.reset with latch3Prev := 1#8, out := [.oneShot 0], started := true }) =
      some (0x00#8, [], false) ∧
    field (·.port0) (issue 0xC0000 readState) = some Config.port0Reset := ⟨by decide, by decide, rfl⟩

theorem test_reserved_refused :
    refuses (issue 0xE0000 State.reset) = some (.reservedOperation 0xE0000#20) ∧
    refuses (issue 0x2001A State.reset) = some (.reservedOperation 0x2001A#20) := by decide

/-- Row 14 of table 2.9. -/
theorem test_time_went_backwards :
    refuses (tickWith (toyCore 10) (clockState 3030004 59331 .top true 3030000)) =
      some (.timeWentBackwards 3030000 3030004) := by decide

/-- Memory: a store is read back, storing the unlisted value removes the cell, cells stay in rising order. -/
theorem test_memory :
    writeByte (writeByte [] 0x2401 2#8) 0x2400 1#8 = [(0x2400, 1#8), (0x2401, 2#8)] ∧
    writeByte [(0x2400, 1#8), (0x2401, 2#8)] 0x2400 0#8 = [(0x2401, 2#8)] ∧
    readByte [(0x2400, 1#8), (0x2401, 2#8)] 0x2401 = 2#8 ∧ memoryWf [(0x2401, 2#8), (0x2400, 1#8)] = false := by decide

/-! Witnesses: for every obligation with hypotheses, operands and states that meet them, clause by clause and at the ends
of each range. -/

/-- The answer is a next state. -/
abbrev completes (r : Result) : Prop := ∃ t, r = .next t

theorem witness_InputLatchReads : State.reset.port0 = Config.port0Reset := rfl

theorem witness_ShiftWindowRead : (0 < 8 ∧ 7 < 8) ∧ completes (exec .in3 State.reset) := ⟨by decide, _, rfl⟩

theorem witness_UnmappedReadsReturnZero : 4 ≤ (4#8 : Byte).toNat ∧ 4 ≤ (255#8 : Byte).toNat := by decide

theorem witness_EveryPortReadWord :
    (0#8 : Byte).toNat = 0 ∧ (1#8 : Byte).toNat = 1 ∧ (2#8 : Byte).toNat = 2 ∧ (3#8 : Byte).toNat = 3 ∧
    3 < (4#8 : Byte).toNat ∧ 3 < (255#8 : Byte).toNat := by decide

theorem witness_UnmappedWritesDoNothing :
    (0#8 : Byte).toNat < 2 ∧ (1#8 : Byte).toNat < 2 ∧ 5 < (6#8 : Byte).toNat ∧ 5 < (255#8 : Byte).toNat := by decide

theorem witness_EveryPortWriteWord :
    (2#8 : Byte).toNat = 2 ∧ (3#8 : Byte).toNat = 3 ∧ (4#8 : Byte).toNat = 4 ∧ (5#8 : Byte).toNat = 5 ∧
    ((1#8 : Byte).toNat < 2 ∨ 5 < (1#8 : Byte).toNat) ∧ ((6#8 : Byte).toNat < 2 ∨ 5 < (6#8 : Byte).toNat) := by decide

/-- The sounds dispatched at the ends of the two ranges: 0 and 3 for port 3, 4 and 7 for port 5. -/
theorem witness_SoundEdgesDispatchOnce :
    field (·.out) (exec (.out3 0x09#8) State.reset) = some [.oneShot 0, .oneShot 3] ∧
    field (·.out) (exec (.out5 0x09#8) State.reset) = some [.oneShot 4, .oneShot 7] := by decide

theorem witness_ShiftRegisterLaws :
    ((0#8 : Byte).toNat < 8 ∧ (7#8 : Byte).toNat < 8) ∧
    ({ State.reset with shiftData := 0x8000#16 }.shiftAmount = { State.reset with shiftData := 0x8001#16 }.shiftAmount ∧
      ∀ k, 0 < k → { State.reset with shiftData := 0x8000#16 }.shiftData.getLsbD k =
        { State.reset with shiftData := 0x8001#16 }.shiftData.getLsbD k) ∧
    State.reset.shiftData = 0#16 := by
  refine ⟨by decide, ⟨rfl, fun k hk => ?_⟩, rfl⟩
  by_cases h : k < 16
  · interval_cases k <;> decide
  · rw [BitVec.getLsbD_of_ge _ _ (by omega), BitVec.getLsbD_of_ge _ _ (by omega)]

theorem witness_RepeatedOperations :
    Instr.poll ∈ ([.decodeTop, .decodeBottom, .decodeFull, .poll] : List Instr) ∧ (∃ v, Instr.out2 7#8 = .out2 v) ∧
    ∃ d, Instr.keyTilt false ∈ ([.keyP1Start d, .keyP1Shoot d, .keyP1Left d, .keyP1Right d, .keyP2Start d,
      .keyP2Shoot d, .keyP2Left d, .keyP2Right d, .keyCoin d, .keyTilt d] : List Instr) :=
  ⟨by decide, ⟨_, rfl⟩, false, by decide⟩

theorem witness_AudioSinkLoops : completes (exec (.loopStart 0) State.reset) ∧ completes (exec (.loopStop 7) State.reset) :=
  ⟨⟨_, rfl⟩, _, rfl⟩

theorem witness_LoopsAreNotWired :
    completes (exec (.out3 1#8) State.reset) ∧ (∀ j, Instr.out3 1#8 ≠ .loopStart j) ∧
    (∀ j, Instr.out3 1#8 ≠ .loopStop j) ∧ Instr.out3 1#8 ≠ .reset := ⟨⟨_, rfl⟩, by decide, by decide, by decide⟩

theorem witness_Port1Keys : (0#4 : BitVec 4) ∈ [0#4, 1#4, 2#4, 3#4, 4#4, 8#4] ∧ 8#4 ∈ [0#4, 1#4, 2#4, 3#4, 4#4, 8#4] := by
  decide

theorem witness_Port2Keys : (5#4 : BitVec 4) ∈ [5#4, 6#4, 7#4, 9#4] ∧ 9#4 ∈ [5#4, 6#4, 7#4, 9#4] := by decide

theorem witness_PollSetsLatches : allKeys.reverse.Perm allKeys := List.reverse_perm _

/-- The first and the last video bit and their cells (table 2.7). -/
theorem witness_PixelMappingBijective :
    (pixelByte 0 255 = 0 ∧ pixelBit 255 = 0) ∧ (pixelByte 223 0 = 7167 ∧ pixelBit 0 = 7) ∧ (0 : Nat) < 7168 ∧
    7167 < 7168 := by decide

/-- Lit and unlit cells, each colour's case. -/
theorem witness_ColourOfPixel :
    (readByte (withMemory [(0x2418, 0x01#8)]).mem (0x2400 + (0 * 32 + (255 - 63) / 8))).getLsbD ((255 - 63) % 8) = true ∧
    (readByte (withMemory [(0x2402, 0x01#8)]).mem (0x2400 + (0 * 32 + (255 - 239) / 8))).getLsbD ((255 - 239) % 8) = true ∧
    (readByte (withMemory [(0x34A0, 0x01#8)]).mem (0x2400 + (133 * 32 + 0 / 8))).getLsbD (0 % 8) = true ∧
    (readByte (withMemory [(0x34C0, 0x01#8)]).mem (0x2400 + (134 * 32 + 0 / 8))).getLsbD (0 % 8) = true ∧
    (readByte State.reset.mem 0x2400).getLsbD 0 = false := by decide

/-- Cells on both sides of the split, and the bytes and bits that lie there. -/
theorem witness_DecodeTopHalf :
    (112 ≤ (112 : Fin 224).val ∧ 112 ≤ (223 : Fin 224).val) ∧ (111 : Fin 224).val = 3583 / 32 ∧
    (0 : Fin 256).val = 255 - (3583 % 32 * 8 + 7) := by decide

theorem witness_DecodeBottomHalf :
    ((0 : Fin 224).val < 112 ∧ (111 : Fin 224).val < 112) ∧ (112 : Fin 224).val = 3584 / 32 ∧
    (255 : Fin 256).val = 255 - (3584 % 32 * 8 + 0) := by decide

/-- Bytes 0 and 7167, bits 0 and 7, and their cells. -/
theorem witness_DecodeFullIsBothHalves :
    ((0 : Fin 224).val = 0 / 32 ∧ (255 : Fin 256).val = 255 - (0 % 32 * 8 + 0)) ∧
    (223 : Fin 224).val = 7167 / 32 ∧ (0 : Fin 256).val = 255 - (7167 % 32 * 8 + 7) := by decide

/-- Two states that differ in the byte below the window and in a port. -/
theorem witness_DecodeIsPure (n : Nat) :
    readByte State.reset.mem (0x2400 + n) =
      readByte { withMemory [(0x23FF, 0xFF#8)] with port1 := 1#8 }.mem (0x2400 + n) := by
  show unlistedByte = if 0x2400 + n = 0x23FF then 0xFF#8 else unlistedByte
  rw [if_neg (by omega)]

/-- A framebuffer of one colour left of column 112 and another from there on. -/
def splitFb (left right : Colour) : Framebuffer := framebufferOf fun cx _ => if cx.val < 112 then left else right

/-- Framebuffers that differ in the half a `DECODE Top` decodes, and agree in the other. -/
theorem witness_DecodeIsPure_topCells :
    (∀ (cx : Fin 224) (cy : Fin 256), 112 ≤ cx.val →
      cellAt (splitFb colorRed colorOff) cx cy = cellAt (splitFb colorGreen colorOff) cx cy) ∧
    cellAt (splitFb colorRed colorOff) 0 0 ≠ cellAt (splitFb colorGreen colorOff) 0 0 := by
  simp only [splitFb, cellAt_framebufferOf]
  exact ⟨fun cx _ h => by rw [if_neg (by omega), if_neg (by omega)], by decide⟩

/-- Framebuffers that differ in the half a `DECODE Bottom` decodes, and agree in the other. -/
theorem witness_DecodeIsPure_bottomCells :
    (∀ (cx : Fin 224) (cy : Fin 256), cx.val < 112 →
      cellAt (splitFb colorOff colorRed) cx cy = cellAt (splitFb colorOff colorGreen) cx cy) ∧
    cellAt (splitFb colorOff colorRed) 112 0 ≠ cellAt (splitFb colorOff colorGreen) 112 0 := by
  simp only [splitFb, cellAt_framebufferOf]
  exact ⟨fun cx _ h => by rw [if_pos h, if_pos h], by decide⟩

/-- Two states that agree only in the Top half. -/
theorem witness_DecodeIsPure_top (n : Nat) (h : n < 3584) :
    readByte State.reset.mem (0x2400 + n) = readByte (withMemory [(0x3200, 0xFF#8)]).mem (0x2400 + n) := by
  show unlistedByte = if 0x2400 + n = 0x3200 then 0xFF#8 else unlistedByte
  rw [if_neg (by omega)]

/-- Two states that agree only in the Bottom half. -/
theorem witness_DecodeIsPure_bottom (n : Nat) (h : 3584 ≤ n) :
    readByte State.reset.mem (0x2400 + n) = readByte (withMemory [(0x31FF, 0xFF#8)]).mem (0x2400 + n) := by
  show unlistedByte = if 0x2400 + n = 0x31FF then 0xFF#8 else unlistedByte
  rw [if_neg (by omega)]

/-- The state after reset with `k` bytes 0xFF from the start of the video window. -/
def litState (k : Nat) : State := { State.reset with mem := loadBytes [] 0x2400 (List.replicate k 0xFF#8) }

theorem litState_reads (k n : Nat) (h : n < k) : readByte (litState k).mem (0x2400 + n) = 0xFF#8 := by
  show readByte (loadBytes [] 0x2400 (List.replicate k 0xFF#8)) (0x2400 + n) = _
  rw [readByte_loadBytes _ _ _ _ rfl, if_pos (by omega), Nat.add_sub_cancel_left, List.getElem?_replicate, if_pos h]
  rfl

/-- All-zero video memory, the state right after reset, and an all-0xFF one. -/
theorem witness_UniformVideoMemory :
    (∀ n, n < 7168 → readByte State.reset.mem (0x2400 + n) = 0x00#8) ∧
    ∀ n, n < 7168 → readByte (litState 7168).mem (0x2400 + n) = 0xFF#8 :=
  ⟨fun _ _ => rfl, fun n => litState_reads 7168 n⟩

/-- Not started; started with `now` equal to `last_time`; started with `now` later. -/
theorem witness_TickCompletes :
    (State.reset.started = true → State.reset.lastTime ≤ State.reset.now) ∧
    ((clockState 5 6 .top true 5).started = true → (clockState 5 6 .top true 5).lastTime ≤ (clockState 5 6 .top true 5).now) ∧
    ((clockState 5 6 .top true 9).started = true → (clockState 5 6 .top true 9).lastTime ≤ (clockState 5 6 .top true 9).now) := by
  decide

theorem witness_TickRefusesEarlierTime :
    (clockState 6 7 .top true 5).started = true ∧ (clockState 6 7 .top true 5).now < (clockState 6 7 .top true 5).lastTime := by
  decide

theorem witness_FirstTick :
    (State.reset.started = false ∧ State.reset.frameHalf = .top) ∧
    ({ State.reset with frameHalf := .bottom }.started = false ∧ { State.reset with frameHalf := .bottom }.frameHalf = .bottom) :=
  ⟨⟨rfl, rfl⟩, rfl, rfl⟩

/-- Row 4 of table 2.9, and a Bottom interrupt, one unit after the due time. -/
theorem witness_DueInterruptInjected :
    ((clockState 9333 9333 .top true 9334).started = true ∧
      (clockState 9333 9333 .top true 9334).lastTime ≤ (clockState 9333 9333 .top true 9334).now ∧
      (clockState 9333 9333 .top true 9334).cpu.interruptEnabled = true ∧
      (clockState 9333 9333 .top true 9334).nextInterruptTime < (clockState 9333 9333 .top true 9334).now) ∧
    (clockState 17667 17666 .bottom true 30000).nextInterruptTime < (clockState 17667 17666 .bottom true 30000).now := by
  decide

/-- Row 3 of table 2.9, at the due time itself, and row 7, past it with the flag clear. -/
theorem witness_NoInterruptUnlessDue :
    ((clockState 5000 9333 .top true 9333).started = true ∧
      (clockState 5000 9333 .top true 9333).lastTime ≤ (clockState 5000 9333 .top true 9333).now ∧
      (clockState 5000 9333 .top true 9333).now ≤ (clockState 5000 9333 .top true 9333).nextInterruptTime) ∧
    ((clockState 17666 17666 .bottom false 17667).started = true ∧
      (clockState 17666 17666 .bottom false 17667).lastTime ≤ (clockState 17666 17666 .bottom false 17667).now ∧
      (clockState 17666 17666 .bottom false 17667).cpu.interruptEnabled = false) := by decide

/-- No time passed (row 4 of P4), and more than the cap (row 11 of table 2.9). -/
theorem witness_CycleBudgetSpent :
    ((clockState 15 8333 .top false 15).started = true ∧
      (clockState 15 8333 .top false 15).now = (clockState 15 8333 .top false 15).lastTime) ∧
    (clockState 30002 34332 .bottom true 3030002).lastTime ≤ (clockState 30002 34332 .bottom true 3030002).now ∧
    cycleBudget (clockState 30002 34332 .bottom true 3030002) = 2000000 := by decide

/-- A canonical memory in which the byte stored is already listed. -/
theorem witness_CpuStepStoresAndEnd : memoryWf (withMemory [(0x2400, 0x01#8)]).mem = true ∧ 0x2401 ≠ 0x2400 := by decide

theorem witness_InterruptRequestReachesCore :
    memoryWf State.reset.mem = true ∧ lastStored [(0x2400, 1#8), (0x2401, 2#8), (0x2400, 3#8)] 0x2400 0#8 = 3#8 := by
  decide

/-- A due interrupt (row 4 of table 2.9); none at the due time itself (row 3); none with the flag clear (row 7). -/
theorem witness_TickRunsTheCore :
    ((clockState 9333 9333 .top true 9334).started = true ∧
      (clockState 9333 9333 .top true 9334).lastTime ≤ (clockState 9333 9333 .top true 9334).now ∧
      (clockState 9333 9333 .top true 9334).cpu.interruptEnabled = true ∧
      (clockState 9333 9333 .top true 9334).nextInterruptTime < (clockState 9333 9333 .top true 9334).now) ∧
    (clockState 5000 9333 .top true 9333).now ≤ (clockState 5000 9333 .top true 9333).nextInterruptTime ∧
    (clockState 17666 17666 .bottom false 17667).cpu.interruptEnabled = false := by decide

/-- A `TICK` answers a next state, with either half. -/
theorem witness_TickEventOrder : completes (exec .tick State.reset) := ⟨_, rfl⟩

theorem witness_TickRefreshesOneHalf :
    (completes (exec .tick State.reset) ∧ State.reset.frameHalf = .top) ∧
    completes (exec .tick (clockState 5 6 .bottom true 5)) ∧ (clockState 5 6 .bottom true 5).frameHalf = .bottom :=
  ⟨⟨⟨_, rfl⟩, rfl⟩, ⟨_, rfl⟩, rfl⟩

theorem witness_DueTimeCountsInterrupts :
    Instr.tick ≠ .reset ∧ (clockState 9333 9333 .top true 9334).started = true ∧
    completes (exec .tick (clockState 9333 9333 .top true 9334)) := ⟨by decide, rfl, _, rfl⟩

theorem witness_ResetOperation : completes (exec .reset readState) := ⟨_, rfl⟩

/-- Each clause's hypotheses: `OUT 6` meets them all. -/
theorem witness_RegisterWriters :
    completes (exec (.outUnmapped6 6#8 0#8) State.reset) ∧ Instr.outUnmapped6 6#8 0#8 ≠ .tick ∧
    Instr.outUnmapped6 6#8 0#8 ≠ .reset ∧ (∀ v, Instr.outUnmapped6 6#8 0#8 ≠ .out2 v) ∧
    (∀ v, Instr.outUnmapped6 6#8 0#8 ≠ .out3 v) ∧ (∀ v, Instr.outUnmapped6 6#8 0#8 ≠ .out4 v) ∧
    (∀ v, Instr.outUnmapped6 6#8 0#8 ≠ .out5 v) ∧
    (∀ d, Instr.outUnmapped6 6#8 0#8 ∉ ([.poll, .keyP1Start d, .keyP1Shoot d, .keyP1Left d, .keyP1Right d, .keyP2Start d,
      .keyP2Shoot d, .keyP2Left d, .keyP2Right d, .keyCoin d, .keyTilt d] : List Instr)) ∧
    Instr.outUnmapped6 6#8 0#8 ∉ ([.decodeTop, .decodeBottom, .decodeFull] : List Instr) :=
  ⟨⟨_, rfl⟩, by simp, by simp, by simp, by simp, by simp, by simp, by simp, by simp⟩

/-- A state in the middle of a run: two interrupts requested, a latch set, a waiting `TICK`. -/
def runningState : State :=
  { clockState 20000 25999 .top true 20000 with
    port1 := 0x77#8, port2 := 0x74#8, mem := [(0x2400, 0x01#8)], out := [.intReq 1#4, .cpuStep 4, .intReq 2#4],
    requests := [{ word := 0x40000#20, now := 30000, keysDown := [.coin] }] }

theorem witness_StepKeepsInvariants : Inv runningState ∧ completes (step runningState) := by
  refine ⟨⟨by decide, rfl, by decide, by decide, fun cx cy => .inl (cellAt_filled _ _ _), by decide, by decide, ?_, ?_⟩,
    ⟨_, rfl⟩⟩
  · intro h
    cases h
  · exact fun _ => ⟨1000, rfl⟩

theorem witness_DecodeOfEncode :
    (Instr.inUnmapped4 4#8).WellFormed ∧ (Instr.inUnmapped128 255#8).WellFormed ∧
    (Instr.outUnmapped0 1#8 0xFF#8).WellFormed ∧ (Instr.outUnmapped64 127#8 0xFF#8).WellFormed ∧
    (Instr.loopStop 7).WellFormed := by decide

theorem witness_EncodeOfDecode : decode 0x1FFFF#20 = .ok (.outUnmapped128 255#8 0xFF#8) ∧ decode 0x80007#20 = .ok (.loopStart 7) := by
  decide

theorem witness_StepRunsDecodedOperation :
    runningState.requests = { word := 0x40000#20, now := 30000, keysDown := [.coin] } :: [] ∧
    decode 0x40000#20 = .ok .tick := ⟨rfl, by decide⟩

theorem witness_StepRefusesReservedWord :
    { State.reset with requests := [{ word := 0xE0000#20, now := 0, keysDown := [] }] }.requests =
      { word := 0xE0000#20, now := 0, keysDown := [] } :: [] ∧ decode 0xE0000#20 = .error .reservedClass :=
  ⟨rfl, by decide⟩

theorem witness_IdleStepChangesNothing : State.reset.requests = [] := rfl

theorem witness_PlacedWordRunsNext : decodeTableWord 24 0x40000 = some .tick ∧ decodeTableWord 24 0x1FF55 =
    some (.outUnmapped128 255#8 0x55#8) := by decide

theorem witness_RomLayouts :
    memoryWf State.reset.mem = true ∧ (List.replicate 2048 0xC3#8 : List Byte).length = 2048 ∧ 0 < 2048 ∧ 2047 < 2048 :=
  ⟨rfl, List.length_replicate, by decide, by decide⟩

end Sys2Proof.Tests
end

section
/-! PROOFS. How a step takes its operation from the list of requests. -/

namespace Sys2Proof.Machine

/-- The next operation is the first request's word, on the state that has taken that request's operands (R97). -/
theorem nextOperation_of_requests_cons {s : State} {r : Request} {rest : List Request} (hs : s.requests = r :: rest) :
    nextOperation s = some (r.word, { s with requests := rest, now := r.now, keysDown := r.keysDown }) := by
  simp only [nextOperation, hs]

/-- The branch of `step` for an operation whose word decodes. -/
theorem step_of_decode_ok {s t : State} {w : OpWord} {i : Instr} (hn : nextOperation s = some (w, t))
    (hd : decode w = .ok i) : step s = exec i t := by
  simp only [step, hn, hd]

/-- Settles O52: the first request is the next operation, and `step` has a single branch for a word that decodes. -/
theorem stepRunsDecodedOperation : Obligations.StepRunsDecodedOperation :=
  fun _ _ _ _ hs hd => step_of_decode_ok (nextOperation_of_requests_cons hs) hd

end Sys2Proof.Machine
end

section
/-! PROOFS. Inversion: what an operation, and a step, has done when it answers a next state. -/

namespace Sys2Proof.Machine

/-- The key event of a logical key, as an operation (R94, R96). -/
def keyEvent (down : Bool) : LogicalKey → Instr
  | .p1Start => .keyP1Start down
  | .p1Shoot => .keyP1Shoot down
  | .p1Left => .keyP1Left down
  | .p1Right => .keyP1Right down
  | .p2Start => .keyP2Start down
  | .p2Shoot => .keyP2Shoot down
  | .p2Left => .keyP2Left down
  | .p2Right => .keyP2Right down
  | .coin => .keyCoin down
  | .tilt => .keyTilt down

/-- `Effect s i t`: what the operation `i` may have made of `s` when it answers `t`. Operations that act alike share a
constructor: the ten port reads (`read`), the unmapped writes (`ignored`), the ten keys (`key`). `read` and `ignored`
leave `i` open, because what they do to the state is all that frames and invariants need. -/
inductive Effect (s : State) : Instr → State → Prop
  | read (i : Instr) (v : Byte) : Effect s i (s.setAccumulator v)
  | ignored (i : Instr) : Effect s i s
  | out2 (v : Byte) : Effect s (.out2 v) (writeShiftAmount v s)
  | out3 (v : Byte) : Effect s (.out3 v) (writeLatch3 v s)
  | out4 (v : Byte) : Effect s (.out4 v) (writeShiftData v s)
  | out5 (v : Byte) : Effect s (.out5 v) (writeLatch5 v s)
  | key (down : Bool) (k : LogicalKey) : Effect s (keyEvent down k) (handleKeyChange k down s)
  | tick : Effect s .tick (iteration Config.cpuCore s)
  | decodeTop : Effect s .decodeTop (decodeTopHalf s)
  | decodeBottom : Effect s .decodeBottom (decodeBottomHalf s)
  | decodeFull : Effect s .decodeFull (decodeWhole s)
  | loopStart (n : SoundIndex) : Effect s (.loopStart n) ((s.emit (.loopStart n)).setLoop n true)
  | loopStop (n : SoundIndex) : Effect s (.loopStop n) ((s.emit (.loopStop n)).setLoop n false)
  | poll : Effect s .poll (pollKeys s)
  | reset : Effect s .reset (resetBlock s)

/-- A `TICK` that is not refused runs one iteration (R120, R134). -/
theorem eq_iteration_of_tickWith_next {core : CpuCore} {s t : State} (h : tickWith core s = .next t) :
    t = iteration core s := by
  unfold tickWith at h
  split at h
  · cases h
  · exact (Host.Outcome.next.inj h).symm

/-- Every operation that answers a next state has its effect. -/
theorem effect_of_exec_next {i : Instr} {s t : State} (h : exec i s = .next t) : Effect s i t := by
  cases i with
  | in0 | in1 | in2 | in3 | inUnmapped4 _ | inUnmapped8 _ | inUnmapped16 _ | inUnmapped32 _ | inUnmapped64 _
  | inUnmapped128 _ => cases h; exact .read _ _
  | outUnmapped0 _ _ | outUnmapped6 _ _ | outUnmapped8 _ _ | outUnmapped16 _ _ | outUnmapped32 _ _
  | outUnmapped64 _ _ | outUnmapped128 _ _ => cases h; exact .ignored _
  | out2 v => cases h; exact .out2 v
  | out3 v => cases h; exact .out3 v
  | out4 v => cases h; exact .out4 v
  | out5 v => cases h; exact .out5 v
  | keyP1Start d => cases h; exact .key d .p1Start
  | keyP1Shoot d => cases h; exact .key d .p1Shoot
  | keyP1Left d => cases h; exact .key d .p1Left
  | keyP1Right d => cases h; exact .key d .p1Right
  | keyP2Start d => cases h; exact .key d .p2Start
  | keyP2Shoot d => cases h; exact .key d .p2Shoot
  | keyP2Left d => cases h; exact .key d .p2Left
  | keyP2Right d => cases h; exact .key d .p2Right
  | keyCoin d => cases h; exact .key d .coin
  | keyTilt d => cases h; exact .key d .tilt
  | tick => exact eq_iteration_of_tickWith_next h ▸ .tick
  | decodeTop => cases h; exact .decodeTop
  | decodeBottom => cases h; exact .decodeBottom
  | decodeFull => cases h; exact .decodeFull
  | loopStart n => cases h; exact .loopStart n
  | loopStop n => cases h; exact .loopStop n
  | poll => cases h; exact .poll
  | reset => cases h; exact .reset

/-- A step that answers a next state found no request and changed nothing, or ran the operation of the first one on the
state that has taken it (R97). -/
theorem step_next_cases {s t : State} (h : step s = .next t) :
    t = s ∨ ∃ (r : Request) (rest : List Request) (i : Instr), s.requests = r :: rest ∧ decode r.word = .ok i ∧
      exec i { s with requests := rest, now := r.now, keysDown := r.keysDown } = .next t := by
  cases hs : s.requests with
  | nil =>
    simp only [step, nextOperation, hs] at h
    exact .inl (Host.Outcome.next.inj h).symm
  | cons r rest =>
    cases hd : decode r.word with
    | ok i => exact .inr ⟨r, rest, i, rfl, hd, (step_of_decode_ok (nextOperation_of_requests_cons hs) hd).symm.trans h⟩
    | error e =>
      simp only [step, nextOperation_of_requests_cons hs, hd] at h
      cases h

end Sys2Proof.Machine
end

section
/-! PROOFS. `RESET` and the state right after reset (R45, R270). -/

namespace Sys2Proof.Machine

/-- Settles O43: the values of `State.reset`, and its framebuffer and loops read cell by cell. -/
theorem resetState : Obligations.ResetState := by
  refine ⟨⟨rfl, rfl, rfl, rfl⟩, ⟨rfl, rfl, rfl⟩, ⟨rfl, rfl, rfl, rfl⟩, cellAt_filled colorOff, rfl, fun i => ?_⟩
  exact Vector.getElem_replicate i.isLt

/-- Settles O42: `resetBlock` takes the block's registers from `State.reset` and the rest from the state. -/
theorem resetOperation : Obligations.ResetOperation := by
  obtain ⟨hclock, hports, hlatches, hcells, hout, -⟩ := resetState
  exact ⟨by decide, fun s => ⟨resetBlock s, rfl, hclock, hports, hlatches, hcells, hout, ⟨rfl, rfl, rfl⟩, rfl, rfl, rfl⟩⟩

/-- Settles O46: no interrupt has been requested, the clock is not started, and every cell is off. -/
theorem resetMeetsInvariants : Obligations.ResetMeetsInvariants where
  memory := reset_mem_wf
  port0 := rfl
  port1 := by decide
  port2 := by decide
  colours cx cy := .inl (cellAt_filled colorOff cx cy)
  vectors := rfl
  parity := by decide
  idle _ := rfl
  schedule h := by cases h

end Sys2Proof.Machine
end

section
/-! PROOFS. The order in which the buffer reaches the presentation sink (R40, R256). -/

namespace Sys2Proof.Machine

/-- Rows of one length `n` laid end to end: entry `j` of row `i` stands at `i * n + j`. -/
theorem getElem?_flatMap_of_length_eq {α β : Type} {f : α → List β} {n j : Nat} (hf : ∀ a, (f a).length = n)
    (hj : j < n) {l : List α} {i : Nat} (hi : i < l.length) : (l.flatMap f)[i * n + j]? = (f l[i])[j]? := by
  induction l generalizing i with
  | nil => cases hi
  | cons a l ih =>
    rw [List.flatMap_cons]
    cases i with
    | zero => simpa using List.getElem?_append_left (by rw [hf]; exact hj)
    | succ i =>
      have hindex : (i + 1) * n + j = n + (i * n + j) := by ring
      rw [hindex, List.getElem?_append_right (by rw [hf]; omega), hf, Nat.add_sub_cancel_left]
      exact ih (Nat.lt_of_succ_lt_succ hi)

/-- Settles O28: `linearCells` lays 256 rows of 224 cells end to end. -/
theorem presentationOrder : Obligations.PresentationOrder := by
  intro fb
  have hrow (cy : Fin 256) : ((List.finRange 224).map fun cx => cellAt fb cx cy).length = 224 := by simp
  refine ⟨?_, fun cx cy => ?_⟩
  · rw [linearCells, List.length_flatMap, List.map_congr_left fun cy _ => hrow cy, List.map_const', List.sum_const_nat,
      List.length_finRange]
  · rw [linearCells, getElem?_flatMap_of_length_eq hrow cx.isLt (by simp)]
    simp

end Sys2Proof.Machine
end

section
/-! PROOFS. The invariants of R44, update by update, then for an operation and a step. -/

namespace Sys2Proof.Machine

variable {s t : State}

/-! Updates outside the clock. -/

/-- What the CPU can reach keeps the invariants while memory stays canonical and no interrupt is requested. -/
theorem inv_of_onlyCpuReach (h : Inv s) (hr : OnlyCpuReach s t) (hmem : memoryWf t.mem = true)
    (hout : intVectors t.out = intVectors s.out) : Inv t := by
  rw [hr]
  exact { h with
    memory := hmem
    vectors := hout ▸ h.vectors
    parity := hout ▸ h.parity
    idle := hout ▸ h.idle
    schedule := hout ▸ h.schedule }

/-- An event that is no interrupt request keeps the invariants. -/
theorem emit_inv (h : Inv s) {e : Event} (he : eventVector e = none) : Inv (s.emit e) :=
  inv_of_onlyCpuReach h rfl h.memory (by simp [intVectors, he])

theorem setAccumulator_inv (h : Inv s) (v : Byte) : Inv (s.setAccumulator v) :=
  inv_of_onlyCpuReach h rfl h.memory rfl

theorem portWrite_inv (h : Inv s) (p v : Byte) : Inv (portWrite p v s) := by
  obtain ⟨hr, -, hm, is, ho⟩ := portWrite_reach p v s
  exact inv_of_onlyCpuReach h hr (hm ▸ h.memory) (by simp [ho])

theorem setLoop_inv (h : Inv s) (n : SoundIndex) (playing : Bool) : Inv (s.setLoop n playing) := { h with }

theorem setLastTime_inv (h : Inv s) (n : Nat) : Inv (s.setLastTime n) := { h with }

/-- A decode writes colours of pixels and leaves the other cells as they were. -/
theorem setFramebuffer_decodeBytes_inv (h : Inv s) (lo hi : Nat) :
    Inv (s.setFramebuffer (decodeBytes lo hi s.mem s.framebuffer)) :=
  { h with
    colours := fun cx cy => by
      rw [setFramebuffer_framebuffer, cellAt_decodeBytes]
      split
      · exact overlayColour_legal cx cy _
      · exact h.colours cx cy }

theorem decodeHalf_inv (h : Inv s) (half : FrameHalf) : Inv (decodeHalf half s) := by
  cases half <;> exact setFramebuffer_decodeBytes_inv h _ _

/-! Key events: no key is bound to an unassigned bit (R211, D11). -/

/-- Latch bits outside a key's mask stay 0. -/
theorem setKeyBit_and_eq_zero {mask latch bits : Byte} (hmask : mask &&& bits = 0#8) (hlatch : latch &&& bits = 0#8)
    (down : Bool) : setKeyBit mask down latch &&& bits = 0#8 := by
  cases down with
  | true => simp [setKeyBit, BitVec.and_or_distrib_right, hmask, hlatch]
  | false => rw [setKeyBit, if_neg (by decide), BitVec.and_assoc, BitVec.and_comm _ bits, ← BitVec.and_assoc, hlatch,
      BitVec.zero_and]

theorem keyMask_and_port1_unassigned (k : LogicalKey) : keyMask k &&& 0x88#8 = 0#8 := by
  cases k <;> rfl

theorem keyMask_and_port2_unassigned {k : LogicalKey} (h : keyPort k = .port2) : keyMask k &&& 0x8B#8 = 0#8 := by
  revert h
  cases k <;> decide

theorem handleKeyChange_inv (h : Inv s) (k : LogicalKey) (down : Bool) : Inv (handleKeyChange k down s) := by
  unfold handleKeyChange
  split
  case h_1 => exact { h with port1 := setKeyBit_and_eq_zero (keyMask_and_port1_unassigned k) h.port1 down }
  case h_2 hk => exact { h with port2 := setKeyBit_and_eq_zero (keyMask_and_port2_unassigned hk) h.port2 down }

theorem foldl_pollKey_inv (ks : List LogicalKey) (h : Inv s) : Inv (ks.foldl pollKey s) := by
  induction ks generalizing s with
  | nil => exact h
  | cons k ks ih => exact ih (handleKeyChange_inv h k _)

theorem pollKeys_inv (h : Inv s) : Inv (pollKeys s) := foldl_pollKey_inv allKeys h

theorem resetBlock_inv (h : Inv s) : Inv (resetBlock s) := { resetMeetsInvariants with memory := h.memory }

/-! The clock. -/

/-- One half-frame is 8333 microseconds (D2). -/
theorem halfFrameDuration_eq : halfFrameDuration = 8333 := rfl

theorem beginIteration_started (s : State) : (beginIteration s).started = true := by
  unfold beginIteration
  split
  · assumption
  · rfl

/-- The clock starts with no interrupt requested, so its first due time is one half-frame from now (R121). -/
theorem startClock_inv (h : Inv s) (hs : s.started = false) : Inv s.startClock :=
  { h with
    idle := fun hst => by cases hst
    schedule := fun _ => ⟨s.now, by simp [h.idle hs, halfFrameDuration_eq]⟩ }

theorem beginIteration_inv (h : Inv s) : Inv (beginIteration s) := by
  unfold beginIteration
  split
  · exact h
  · exact startClock_inv h (Bool.eq_false_of_not_eq_true ‹_›)

theorem length_intVectors_intReq (es : List Event) (v : IntVector) :
    (intVectors (es ++ [.intReq v])).length = (intVectors es).length + 1 := by
  simp [intVectors, eventVector]

theorem alternatingVectors_succ (n : Nat) :
    alternatingVectors (n + 1) = alternatingVectors n ++ [if n % 2 = 0 then vecTop else vecBottom] := by
  simp [alternatingVectors, List.range_succ]

/-- The vector of the next interrupt is the next term of the alternation (R131). -/
theorem halfVector_eq_of_inv (h : Inv s) :
    halfVector s.frameHalf = if (intVectors s.out).length % 2 = 0 then vecTop else vecBottom := by
  have hpar := h.parity
  cases hf : s.frameHalf with
  | top => rw [if_pos (hpar.1 hf)]; rfl
  | bottom => rw [if_neg fun hev => by simp [hpar.2 hev] at hf]; rfl

theorem otherHalf_eq_top (half : FrameHalf) : otherHalf half = .top ↔ half ≠ .top := by
  cases half <;> decide

/-- One interrupt request is one more term of the alternation, one toggle and one half-frame (R123). -/
theorem injectInterrupt_inv (core : CpuCore) (h : Inv s) (hs : s.started = true) : Inv (injectInterrupt core s) := by
  obtain ⟨heq, hmem⟩ := injectInterrupt_reach core s
  rw [heq]
  exact { h with
    memory := hmem h.memory
    vectors := by
      rw [length_intVectors_intReq, alternatingVectors_succ, ← h.vectors, ← halfVector_eq_of_inv h, intVectors_append]
      rfl
    parity := by
      rw [length_intVectors_intReq, otherHalf_eq_top, ne_eq, h.parity]
      omega
    idle := fun hst => by simp [hs] at hst
    schedule := fun _ => by
      obtain ⟨t0, ht0⟩ := h.schedule hs
      refine ⟨t0, ?_⟩
      simp only [length_intVectors_intReq, halfFrameDuration_eq, ht0]
      omega }

theorem interruptIfDue_inv (core : CpuCore) (h : Inv s) (hs : s.started = true) : Inv (interruptIfDue core s) := by
  unfold interruptIfDue
  split
  · exact injectInterrupt_inv core h hs
  · exact h

/-- The CPU steps of a `TICK` request no interrupt. -/
theorem intVectors_spendBudget (core : CpuCore) (s : State) :
    intVectors (spendBudget core s).out = intVectors s.out := by
  obtain ⟨-, -, es, hout, ⟨hcpu, -⟩, -⟩ := runCycles_reach core (cycleBudget s) (cycleBudget s) 0 s
  rw [spendBudget, hout, intVectors_append, intVectors_of_cpuEvents es hcpu, List.append_nil]

theorem spendBudget_inv (core : CpuCore) (h : Inv s) : Inv (spendBudget core s) := by
  obtain ⟨hr, hmem, -⟩ := runCycles_reach core (cycleBudget s) (cycleBudget s) 0 s
  exact inv_of_onlyCpuReach h hr (hmem h.memory) (intVectors_spendBudget core s)

theorem refreshAndPoll_inv (h : Inv s) (redraw : FrameHalf) : Inv (refreshAndPoll redraw s) :=
  pollKeys_inv (emit_inv (decodeHalf_inv h redraw) rfl)

/-- A scheduler iteration keeps the invariants, step by step of R120. -/
theorem iteration_inv (core : CpuCore) (h : Inv s) : Inv (iteration core s) :=
  have hbegun := beginIteration_inv h
  have hran := spendBudget_inv core (interruptIfDue_inv core hbegun (beginIteration_started s))
  setLastTime_inv (refreshAndPoll_inv hran _) _

/-! Operations and steps. -/

/-- Every operation keeps the invariants. -/
theorem inv_of_effect {i : Instr} (h : Inv s) (he : Effect s i t) : Inv t := by
  cases he with
  | read _ v => exact setAccumulator_inv h v
  | ignored => exact h
  | out2 v => exact portWrite_inv h 2#8 v
  | out3 v => exact portWrite_inv h 3#8 v
  | out4 v => exact portWrite_inv h 4#8 v
  | out5 v => exact portWrite_inv h 5#8 v
  | key down k => exact handleKeyChange_inv h k down
  | tick => exact iteration_inv _ h
  | decodeTop => exact setFramebuffer_decodeBytes_inv h _ _
  | decodeBottom => exact setFramebuffer_decodeBytes_inv h _ _
  | decodeFull => exact setFramebuffer_decodeBytes_inv h _ _
  | loopStart n => exact setLoop_inv (emit_inv h rfl) n true
  | loopStop n => exact setLoop_inv (emit_inv h rfl) n false
  | poll => exact pollKeys_inv h
  | reset => exact resetBlock_inv h

/-- Settles O47: taking a request touches none of the registers the invariants speak of, and every operation keeps
them. -/
theorem stepKeepsInvariants : Obligations.StepKeepsInvariants := by
  intro s t h hstep
  rcases step_next_cases hstep with rfl | ⟨r, rest, i, -, -, hexec⟩
  · exact h
  · have htaken : Inv { s with requests := rest, now := r.now, keysDown := r.keysDown } := { h with }
    exact inv_of_effect htaken (effect_of_exec_next hexec)

end Sys2Proof.Machine
end

section
/-! PROOFS. Frames: which operation leaves which register (R23 to R26, R40, R63, R78, R171). -/

namespace Sys2Proof.Machine

variable {s t : State} {i : Instr}

/-- The registers that only `TICK` and `RESET` write are as they were, and no interrupt was requested. -/
structure SameClock (s t : State) : Prop where
  started : t.started = s.started
  frameHalf : t.frameHalf = s.frameHalf
  lastTime : t.lastTime = s.lastTime
  nextInterruptTime : t.nextInterruptTime = s.nextInterruptTime
  port0 : t.port0 = s.port0
  vectors : intVectors t.out = intVectors s.out

theorem sameClock_of_onlyCpuReach (hr : OnlyCpuReach s t) (hout : intVectors t.out = intVectors s.out) :
    SameClock s t := by
  rw [hr]
  exact ⟨rfl, rfl, rfl, rfl, rfl, hout⟩

theorem portWrite_sameClock (p v : Byte) (s : State) : SameClock s (portWrite p v s) := by
  obtain ⟨hr, -, -, is, ho⟩ := portWrite_reach p v s
  exact sameClock_of_onlyCpuReach hr (by simp [ho])

theorem handleKeyChange_sameClock (k : LogicalKey) (down : Bool) (s : State) :
    SameClock s (handleKeyChange k down s) := by
  rw [handleKeyChange_reach]
  exact ⟨rfl, rfl, rfl, rfl, rfl, rfl⟩

theorem pollKeys_sameClock (s : State) : SameClock s (pollKeys s) := by
  rw [pollKeys_reach]
  exact ⟨rfl, rfl, rfl, rfl, rfl, rfl⟩

/-- A loop event is no interrupt request. -/
theorem setLoop_emit_sameClock {e : Event} (he : eventVector e = none) (n : SoundIndex) (playing : Bool) (s : State) :
    SameClock s ((s.emit e).setLoop n playing) :=
  ⟨rfl, rfl, rfl, rfl, rfl, by simp [intVectors, he]⟩

/-- Every operation but `TICK` and `RESET` leaves the clock's registers and port 0, and requests no interrupt. -/
theorem sameClock_of_effect (he : Effect s i t) (htick : i ≠ .tick) (hreset : i ≠ .reset) : SameClock s t := by
  cases he with
  | tick => exact absurd rfl htick
  | reset => exact absurd rfl hreset
  | read | ignored | decodeTop | decodeBottom | decodeFull => exact ⟨rfl, rfl, rfl, rfl, rfl, rfl⟩
  | out2 v => exact portWrite_sameClock 2#8 v s
  | out3 v => exact portWrite_sameClock 3#8 v s
  | out4 v => exact portWrite_sameClock 4#8 v s
  | out5 v => exact portWrite_sameClock 5#8 v s
  | key down k => exact handleKeyChange_sameClock k down s
  | loopStart n => exact setLoop_emit_sameClock rfl n true s
  | loopStop n => exact setLoop_emit_sameClock rfl n false s
  | poll => exact pollKeys_sameClock s

theorem mem_eq_of_effect (he : Effect s i t) (htick : i ≠ .tick) : t.mem = s.mem := by
  cases he with
  | tick => exact absurd rfl htick
  | key down k => rw [handleKeyChange_reach]
  | poll => rw [pollKeys_reach]
  | _ => rfl

/-- The registers behind the write ports are written by their own `OUT`, besides `TICK` and `RESET`. -/
theorem writePortRegisters_eq_of_effect (he : Effect s i t) (htick : i ≠ .tick) (hreset : i ≠ .reset) :
    ((∀ v, i ≠ .out2 v) → t.shiftAmount = s.shiftAmount) ∧ ((∀ v, i ≠ .out3 v) → t.latch3Prev = s.latch3Prev) ∧
      ((∀ v, i ≠ .out4 v) → t.shiftData = s.shiftData) ∧ ((∀ v, i ≠ .out5 v) → t.latch5Prev = s.latch5Prev) := by
  cases he with
  | tick => exact absurd rfl htick
  | reset => exact absurd rfl hreset
  | out2 v => exact ⟨fun hi => absurd rfl (hi v), fun _ => rfl, fun _ => rfl, fun _ => rfl⟩
  | out3 v => exact ⟨fun _ => rfl, fun hi => absurd rfl (hi v), fun _ => rfl, fun _ => rfl⟩
  | out4 v => exact ⟨fun _ => rfl, fun _ => rfl, fun hi => absurd rfl (hi v), fun _ => rfl⟩
  | out5 v => exact ⟨fun _ => rfl, fun _ => rfl, fun _ => rfl, fun hi => absurd rfl (hi v)⟩
  | key down k =>
    rw [handleKeyChange_reach]
    exact ⟨fun _ => rfl, fun _ => rfl, fun _ => rfl, fun _ => rfl⟩
  | poll =>
    rw [pollKeys_reach]
    exact ⟨fun _ => rfl, fun _ => rfl, fun _ => rfl, fun _ => rfl⟩
  | _ => exact ⟨fun _ => rfl, fun _ => rfl, fun _ => rfl, fun _ => rfl⟩

/-- The operations that write the input latches, besides `TICK` and `RESET` (R171). -/
def inputOperations (d : Bool) : List Instr :=
  [.poll, .keyP1Start d, .keyP1Shoot d, .keyP1Left d, .keyP1Right d, .keyP2Start d, .keyP2Shoot d, .keyP2Left d,
    .keyP2Right d, .keyCoin d, .keyTilt d]

theorem keyEvent_mem_inputOperations (down : Bool) (k : LogicalKey) : keyEvent down k ∈ inputOperations down := by
  cases k <;> simp [keyEvent, inputOperations]

theorem inputLatches_eq_of_effect (he : Effect s i t) (htick : i ≠ .tick) (hreset : i ≠ .reset)
    (hi : ∀ d, i ∉ inputOperations d) : t.port1 = s.port1 ∧ t.port2 = s.port2 := by
  cases he with
  | tick => exact absurd rfl htick
  | reset => exact absurd rfl hreset
  | key down k => exact absurd (keyEvent_mem_inputOperations down k) (hi down)
  | poll => exact absurd List.mem_cons_self (hi true)
  | _ => exact ⟨rfl, rfl⟩

theorem framebuffer_eq_of_effect (he : Effect s i t) (htick : i ≠ .tick) (hreset : i ≠ .reset)
    (hi : i ∉ ([.decodeTop, .decodeBottom, .decodeFull] : List Instr)) : t.framebuffer = s.framebuffer := by
  cases he with
  | tick => exact absurd rfl htick
  | reset => exact absurd rfl hreset
  | decodeTop | decodeBottom | decodeFull => exact absurd (by decide) hi
  | key down k => rw [handleKeyChange_reach]
  | poll => rw [pollKeys_reach]
  | _ => rfl

/-- Settles O45: memory, the clock with port 0, the registers behind the write ports, the input latches, the
framebuffer. -/
theorem registerWriters : Obligations.RegisterWriters := by
  intro i s t h htick
  have he := effect_of_exec_next h
  refine ⟨mem_eq_of_effect he htick, fun hreset => ?_⟩
  have hc := sameClock_of_effect he htick hreset
  obtain ⟨hamount, hlatch3, hdata, hlatch5⟩ := writePortRegisters_eq_of_effect he htick hreset
  exact ⟨⟨hc.started, hc.frameHalf, hc.lastTime, hc.nextInterruptTime, hc.port0⟩, hamount, hlatch3, hdata, hlatch5,
    inputLatches_eq_of_effect he htick hreset, framebuffer_eq_of_effect he htick hreset⟩

end Sys2Proof.Machine
end

section
/-! PROOFS. The due time counts the interrupts (item 4 of R44, R123). -/

namespace Sys2Proof.Machine

variable {s t u : State}

/-- The due time has moved on by one half-frame for each interrupt requested from `s` to `t`. -/
def DueTimeCounts (s t : State) : Prop :=
  t.nextInterruptTime + (intVectors s.out).length * 8333 = s.nextInterruptTime + (intVectors t.out).length * 8333

theorem dueTimeCounts_of_sameClock (h : SameClock s t) : DueTimeCounts s t := by
  rw [DueTimeCounts, h.nextInterruptTime, h.vectors]

theorem DueTimeCounts_trans (hst : DueTimeCounts s t) (htu : DueTimeCounts t u) : DueTimeCounts s u := by
  unfold DueTimeCounts at hst htu ⊢
  linarith

theorem interruptIfDue_started (core : CpuCore) (s : State) : (interruptIfDue core s).started = s.started := by
  unfold interruptIfDue
  split <;> rfl

/-- An interrupt is one request and one half-frame (R123). -/
theorem interruptIfDue_dueTimeCounts (core : CpuCore) (s : State) : DueTimeCounts s (interruptIfDue core s) := by
  unfold interruptIfDue
  split
  · rw [(injectInterrupt_reach core s).1]
    simp only [DueTimeCounts, length_intVectors_intReq, halfFrameDuration_eq]
    ring
  · rfl

/-- The CPU steps of a `TICK` leave the clock. -/
theorem spendBudget_sameClock (core : CpuCore) (s : State) : SameClock s (spendBudget core s) :=
  sameClock_of_onlyCpuReach (runCycles_reach core (cycleBudget s) (cycleBudget s) 0 s).1 (intVectors_spendBudget core s)

/-- The decode, the presentation and the poll of a `TICK` leave the clock. -/
theorem refreshAndPoll_sameClock (redraw : FrameHalf) (s : State) : SameClock s (refreshAndPoll redraw s) := by
  rw [refreshAndPoll, pollKeys_reach, decodeHalf_eq]
  exact ⟨rfl, rfl, rfl, rfl, rfl, by simp [intVectors, eventVector]⟩

/-- A started clock stays started, and an iteration moves its due time with the interrupt alone (R123). -/
theorem iteration_dueTimeCounts (core : CpuCore) (hs : s.started = true) :
    (iteration core s).started = true ∧ DueTimeCounts s (iteration core s) := by
  have hbegun : beginIteration s = s := if_pos hs
  have hinjected := interruptIfDue_dueTimeCounts core s
  have hran := spendBudget_sameClock core (interruptIfDue core s)
  have hpolled := refreshAndPoll_sameClock s.frameHalf (spendBudget core (interruptIfDue core s))
  have hcounts := DueTimeCounts_trans hinjected
    (DueTimeCounts_trans (dueTimeCounts_of_sameClock hran) (dueTimeCounts_of_sameClock hpolled))
  simp only [iteration, hbegun]
  exact ⟨hpolled.started.trans (hran.started.trans ((interruptIfDue_started core s).trans hs)), hcounts⟩

/-- Settles O41: only the interrupt of a `TICK` moves the due time of a started clock. -/
theorem dueTimeCountsInterrupts : Obligations.DueTimeCountsInterrupts := by
  intro i s t hreset hs h
  by_cases htick : i = .tick
  · subst htick
    rw [eq_iteration_of_tickWith_next h]
    exact iteration_dueTimeCounts Config.cpuCore hs
  · have hc := sameClock_of_effect (effect_of_exec_next h) htick hreset
    exact ⟨hc.started.trans hs, dueTimeCounts_of_sameClock hc⟩

end Sys2Proof.Machine
end

section
/-! PROOFS. Operations that may be repeated: a key's latch bit, the poll, the decodes, and the shift register, which a
second write moves on (R70, R156, R158, R170, R199, R210). -/

namespace Sys2Proof.Machine

/-! Key events. -/

/-- A key event sets the mask's bits to the key's state and keeps the others. -/
theorem getElem_setKeyBit (mask latch : Byte) (down : Bool) {n : Nat} (hn : n < 8) :
    (setKeyBit mask down latch)[n] = if mask[n] then down else latch[n] := by
  cases down <;> cases h : mask[n] <;> simp [setKeyBit, h]

theorem setKeyBit_idem (mask latch : Byte) (down : Bool) :
    setKeyBit mask down (setKeyBit mask down latch) = setKeyBit mask down latch := by
  ext n hn
  simp only [getElem_setKeyBit]
  split <;> rfl

/-- Key events on disjoint masks commute. -/
theorem setKeyBit_comm {mask mask' : Byte} (hdisjoint : mask &&& mask' = 0#8) (down down' : Bool) (latch : Byte) :
    setKeyBit mask down (setKeyBit mask' down' latch) = setKeyBit mask' down' (setKeyBit mask down latch) := by
  ext n hn
  have hn' : (mask[n] && mask'[n]) = false := by rw [← BitVec.getElem_and, hdisjoint, BitVec.getElem_zero]
  simp only [getElem_setKeyBit]
  cases hm : mask[n] with
  | true =>
    rw [hm, Bool.true_and] at hn'
    simp [hn']
  | false => simp

/-- No two keys of one latch share a bit (R211). -/
theorem keyMask_and_keyMask {k k' : LogicalKey} (hport : keyPort k = keyPort k') (hne : k ≠ k') :
    keyMask k &&& keyMask k' = 0#8 := by
  revert hport hne
  cases k <;> cases k' <;> decide

theorem handleKeyChange_of_port1 {k : LogicalKey} (h : keyPort k = .port1) (down : Bool) (s : State) :
    handleKeyChange k down s = s.setPort1 (setKeyBit (keyMask k) down s.port1) := by
  simp only [handleKeyChange, h]

theorem handleKeyChange_of_port2 {k : LogicalKey} (h : keyPort k = .port2) (down : Bool) (s : State) :
    handleKeyChange k down s = s.setPort2 (setKeyBit (keyMask k) down s.port2) := by
  simp only [handleKeyChange, h]

theorem handleKeyChange_idem (k : LogicalKey) (down : Bool) (s : State) :
    handleKeyChange k down (handleKeyChange k down s) = handleKeyChange k down s := by
  cases h : keyPort k with
  | port1 =>
    simp only [handleKeyChange_of_port1 h, setPort1_port1, setKeyBit_idem]
    rfl
  | port2 =>
    simp only [handleKeyChange_of_port2 h, setPort2_port2, setKeyBit_idem]
    rfl

/-- Events of two different keys commute: they write different latches, or different bits of one. -/
theorem handleKeyChange_comm {k k' : LogicalKey} (hne : k ≠ k') (down down' : Bool) (s : State) :
    handleKeyChange k down (handleKeyChange k' down' s) = handleKeyChange k' down' (handleKeyChange k down s) := by
  cases h : keyPort k <;> cases h' : keyPort k'
  case port1.port1 =>
    simp only [handleKeyChange_of_port1 h, handleKeyChange_of_port1 h', setPort1_port1,
      setKeyBit_comm (keyMask_and_keyMask (h.trans h'.symm) hne) down down' s.port1]
    rfl
  case port1.port2 =>
    simp only [handleKeyChange_of_port1 h, handleKeyChange_of_port2 h']
    rfl
  case port2.port1 =>
    simp only [handleKeyChange_of_port2 h, handleKeyChange_of_port1 h']
    rfl
  case port2.port2 =>
    simp only [handleKeyChange_of_port2 h, handleKeyChange_of_port2 h', setPort2_port2,
      setKeyBit_comm (keyMask_and_keyMask (h.trans h'.symm) hne) down down' s.port2]
    rfl

/-! The poll: it does not depend on the order of the keys. -/

theorem pollKey_keysDown (s : State) (k : LogicalKey) : (pollKey s k).keysDown = s.keysDown := by
  rw [pollKey, handleKeyChange_reach]

/-- Two keys polled are two key events on the keys that are down at the start. -/
theorem pollKey_pollKey (s : State) (k k' : LogicalKey) :
    pollKey (pollKey s k) k' =
      handleKeyChange k' (decide (k' ∈ s.keysDown)) (handleKeyChange k (decide (k ∈ s.keysDown)) s) := by
  rw [pollKey, pollKey_keysDown, pollKey]

theorem pollKey_idem (s : State) (k : LogicalKey) : pollKey (pollKey s k) k = pollKey s k := by
  rw [pollKey_pollKey, handleKeyChange_idem, pollKey]

theorem pollKey_rightCommutative : RightCommutative pollKey where
  right_comm s k k' := by
    by_cases hne : k = k'
    · rw [hne]
    · rw [pollKey_pollKey, handleKeyChange_comm (Ne.symm hne), ← pollKey_pollKey]

/-- The first key polled may be polled last, where its second poll finds its bit as the first left it. -/
theorem foldl_pollKey_idem (ks : List LogicalKey) (s : State) :
    ks.foldl pollKey (ks.foldl pollKey s) = ks.foldl pollKey s := by
  induction ks generalizing s with
  | nil => rfl
  | cons k ks ih =>
    have hlast := List.foldl_cons_eq_apply_foldl (hv := pollKey_rightCommutative) (a := k) (b := s) (l := ks)
    have hagain : pollKey ((k :: ks).foldl pollKey s) k = (k :: ks).foldl pollKey s := by rw [hlast, pollKey_idem]
    rw [List.foldl_cons, hagain, List.foldl_cons, ih]

theorem pollKeys_idem (s : State) : pollKeys (pollKeys s) = pollKeys s := foldl_pollKey_idem allKeys s

/-! The decodes. -/

/-- A decode reads memory alone for the cells it writes, and keeps the others. -/
theorem decodeBytes_idem (lo hi : Nat) (m : Memory) (fb : Framebuffer) :
    decodeBytes lo hi m (decodeBytes lo hi m fb) = decodeBytes lo hi m fb := by
  refine framebuffer_ext _ _ fun cx cy => ?_
  simp only [cellAt_decodeBytes]
  split <;> rfl

theorem setFramebuffer_decodeBytes_idem (lo hi : Nat) (s : State) :
    (s.setFramebuffer (decodeBytes lo hi s.mem s.framebuffer)).setFramebuffer
      (decodeBytes lo hi s.mem (decodeBytes lo hi s.mem s.framebuffer)) =
    s.setFramebuffer (decodeBytes lo hi s.mem s.framebuffer) := by
  rw [decodeBytes_idem]
  rfl

/-! The shift register. -/

/-- The old high byte moves below the new one (R158). -/
theorem toNat_shiftIn (v : Byte) (data : BitVec 16) :
    (shiftIn v data).toNat = v.toNat * 256 + data.toNat / 256 := by
  have hv := v.isLt
  have hlow : data.toNat >>> 8 < 2 ^ 8 := by rw [Nat.shiftRight_eq_div_pow]; omega
  have hhigh : (v.setWidth 16 <<< 8).toNat = v.toNat <<< 8 := by
    rw [BitVec.toNat_shiftLeft, BitVec.toNat_setWidth, Nat.shiftLeft_eq, Nat.shiftLeft_eq]
    omega
  rw [shiftIn, BitVec.toNat_or, hhigh, BitVec.toNat_ushiftRight, ← Nat.shiftLeft_add_eq_or_of_lt hlow,
    Nat.shiftLeft_eq, Nat.shiftRight_eq_div_pow]

/-- After a second write of the byte it stands in both halves (R158). -/
theorem toNat_shiftIn_shiftIn (v : Byte) (data : BitVec 16) :
    (shiftIn v (shiftIn v data)).toNat = v.toNat * 256 + v.toNat := by
  have hv := v.isLt
  have hdata := data.isLt
  rw [toNat_shiftIn, toNat_shiftIn]
  omega

theorem shiftIn_shiftIn_ne {v : Byte} {data : BitVec 16} (hne : data.toNat / 256 ≠ v.toNat) :
    shiftIn v (shiftIn v data) ≠ shiftIn v data := by
  intro heq
  have hboth := toNat_shiftIn_shiftIn v data
  rw [heq, toNat_shiftIn] at hboth
  exact hne (Nat.add_left_cancel hboth)

/-! Repetition. -/

theorem exec_keyEvent (down : Bool) (k : LogicalKey) (s : State) :
    exec (keyEvent down k) s = .next (handleKeyChange k down s) := by
  cases k <;> rfl

/-- An operation that is an idempotent function of the state may be repeated. -/
theorem exec_twice_of_idem {i : Instr} {f : State → State} (hexec : ∀ s, exec i s = .next (f s))
    (hidem : ∀ s, f (f s) = f s) (s : State) : ∃ t, exec i s = .next t ∧ exec i t = .next t :=
  ⟨f s, hexec s, by rw [hexec, hidem]⟩

/-- The operations that R70 lets be done twice are idempotent functions of the state. -/
theorem exec_twice_of_repeatable {i : Instr}
    (hi : i ∈ ([.decodeTop, .decodeBottom, .decodeFull, .poll] : List Instr) ∨ (∃ v, i = .out2 v) ∨
      ∃ down, i ∈ allKeys.map (keyEvent down)) (s : State) : ∃ t, exec i s = .next t ∧ exec i t = .next t := by
  obtain hi | ⟨v, rfl⟩ | ⟨down, hi⟩ := hi
  · simp only [List.mem_cons, List.not_mem_nil, or_false] at hi
    obtain rfl | rfl | rfl | rfl := hi
    · exact exec_twice_of_idem (f := decodeTopHalf) (fun _ => rfl) (setFramebuffer_decodeBytes_idem _ _) s
    · exact exec_twice_of_idem (f := decodeBottomHalf) (fun _ => rfl) (setFramebuffer_decodeBytes_idem _ _) s
    · exact exec_twice_of_idem (f := decodeWhole) (fun _ => rfl) (setFramebuffer_decodeBytes_idem _ _) s
    · exact exec_twice_of_idem (fun _ => rfl) pollKeys_idem s
  · exact exec_twice_of_idem (f := writeShiftAmount v) (fun _ => rfl) (fun _ => rfl) s
  · obtain ⟨k, -, rfl⟩ := List.mem_map.1 hi
    exact exec_twice_of_idem (exec_keyEvent down k) (handleKeyChange_idem k down) s

/-- Settles O13: the repeatable operations are idempotent, and two writes of `OUT 4` are two moves of the shift
register. -/
theorem repeatedOperations : Obligations.RepeatedOperations :=
  ⟨fun _ hi => exec_twice_of_repeatable hi, fun v s =>
    ⟨writeShiftData v s, writeShiftData v (writeShiftData v s), rfl, rfl,
      toNat_shiftIn v s.shiftData, toNat_shiftIn_shiftIn v s.shiftData, shiftIn_shiftIn_ne⟩⟩

end Sys2Proof.Machine
end

section
/-! PROOFS. The ROM image in memory (R64). -/

namespace Sys2Proof.Machine

/-- A contiguous image lies from address 0 upwards, and the rest of memory is as it was. -/
theorem readByte_loadRom_contiguous {m : Memory} (h : memoryWf m = true) (image : List Byte) (a : Nat) :
    readByte (loadRom m (.contiguous image)) a = (image[a]?).getD (readByte m a) := by
  rw [loadRom, readByte_loadBytes image m 0 a h, if_pos a.zero_le, Nat.sub_zero]

/-- A part of the image lies behind the parts before it. -/
theorem readByte_loadRom_part {m : Memory} (h : memoryWf m = true) (before part rest : List Byte) {j : Nat}
    (hj : j < part.length) :
    readByte (loadRom m (.contiguous (before ++ part ++ rest))) (before.length + j) = part.getD j 0#8 := by
  have hpart : (before ++ part ++ rest)[before.length + j]? = some part[j] := by
    rw [List.getElem?_append_left (by simpa using hj), List.getElem?_append_right (Nat.le_add_right _ _),
      Nat.add_sub_cancel_left, List.getElem?_eq_getElem hj]
  rw [readByte_loadRom_contiguous h, hpart, Option.getD_some, List.getD_eq_getElem part 0#8 hj]

/-- The four segments in order are one contiguous image, when the first three fill their 2 KB. -/
theorem loadRom_fourSegments (m : Memory) {s0 s1 s2 : List Byte} (s3 : List Byte) (h0 : s0.length = 2048)
    (h1 : s1.length = 2048) (h2 : s2.length = 2048) :
    loadRom m (.fourSegments s0 s1 s2 s3) = loadRom m (.contiguous (s0 ++ s1 ++ s2 ++ s3)) := by
  simp only [loadRom, loadBytes_append, List.length_append, h0, h1, h2]

/-- Settles O56: a load puts a part of the image behind the parts before it, and each segment begins where the one
before it ends. -/
theorem romLayouts : Obligations.RomLayouts := by
  refine ⟨fun m image h a => readByte_loadRom_contiguous h image a, fun m s0 s1 s2 s3 h h0 h1 h2 h3 => ?_⟩
  have heq := loadRom_fourSegments m s3 h0 h1 h2
  refine ⟨fun j hj => ?_, heq⟩
  rw [heq]
  have hseg0 := readByte_loadRom_part h [] s0 (s1 ++ s2 ++ s3) (h0.symm ▸ hj)
  have hseg1 := readByte_loadRom_part h s0 s1 (s2 ++ s3) (h1.symm ▸ hj)
  have hseg2 := readByte_loadRom_part h (s0 ++ s1) s2 s3 (h2.symm ▸ hj)
  have hseg3 := readByte_loadRom_part h (s0 ++ s1 ++ s2) s3 [] (h3.symm ▸ hj)
  simp only [List.nil_append, List.append_nil, List.append_assoc, List.length_append, List.length_nil, Nat.zero_add, h0,
    h1, h2] at hseg0 hseg1 hseg2 hseg3 ⊢
  exact ⟨hseg0, hseg1, hseg2, hseg3⟩

end Sys2Proof.Machine
end

section
/-! PROOFS. Operation words as numbers: a field is a quotient of the word modulo a power of two, and a format puts its
fields at their places (R90, R91, R94, R95). -/

namespace Sys2Proof

/-! The fields of a word. -/

theorem toNat_extractLsb' (w : OpWord) (start len : Nat) :
    (w.extractLsb' start len).toNat = w.toNat / 2 ^ start % 2 ^ len := by
  rw [BitVec.extractLsb'_toNat, Nat.shiftRight_eq_div_pow]

theorem extractLsb'_eq_iff {w : OpWord} {start len : Nat} {v : BitVec len} :
    w.extractLsb' start len = v ↔ w.toNat / 2 ^ start % 2 ^ len = v.toNat := by
  rw [← BitVec.toNat_inj, toNat_extractLsb']

theorem toNat_getLsbD (w : OpWord) (k : Nat) : (w.getLsbD k).toNat = w.toNat / 2 ^ k % 2 :=
  Nat.toNat_testBit w.toNat k

theorem getLsbD_eq_iff {w : OpWord} {k : Nat} {b : Bool} : w.getLsbD k = b ↔ w.toNat / 2 ^ k % 2 = b.toNat := by
  rw [← toNat_getLsbD]
  cases w.getLsbD k <;> cases b <;> decide

/-! The words of the formats. -/

theorem toNat_portWord (write : Bool) (p data : Byte) :
    (portWord write p data).toNat = write.toNat * 65536 + p.toNat * 256 + data.toNat := by
  have hp := p.isLt
  have hdata := data.isLt
  have hdir : (if write then 0x10000#20 else 0x00000#20).toNat = write.toNat <<< 16 := by cases write <;> rfl
  have hport : (p.setWidth 20 <<< 8).toNat = p.toNat <<< 8 := by
    rw [BitVec.toNat_shiftLeft, BitVec.toNat_setWidth, Nat.shiftLeft_eq, Nat.shiftLeft_eq]
    omega
  have hlow : p.toNat <<< 8 ||| data.toNat = p.toNat * 256 + data.toNat := by
    rw [← Nat.shiftLeft_add_eq_or_of_lt hdata, Nat.shiftLeft_eq]
  have hrange : p.toNat * 256 + data.toNat < 2 ^ 16 := by omega
  rw [portWord, BitVec.toNat_or, BitVec.toNat_or, Nat.or_assoc, hdir, hport, BitVec.toNat_setWidth,
    Nat.mod_eq_of_lt (by omega), hlow, ← Nat.shiftLeft_add_eq_or_of_lt hrange, Nat.shiftLeft_eq, Nat.add_assoc]

theorem toNat_keyWord (down : Bool) (k : BitVec 4) :
    (keyWord down k).toNat = 1 * 2 ^ 17 + down.toNat * 16 + k.toNat := by
  revert down k; decide

theorem toNat_bareWord (c : BitVec 3) : (bareWord c).toNat = c.toNat * 2 ^ 17 := by
  revert c; decide

theorem toNat_halfWord (hh : BitVec 2) : (halfWord hh).toNat = 3 * 2 ^ 17 + hh.toNat := by
  revert hh; decide

theorem toNat_loopWord (stop : Bool) (i : SoundIndex) :
    (loopWord stop i).toNat = 4 * 2 ^ 17 + stop.toNat * 8 + i.val := by
  revert stop i; decide

/-! A word is put together again from its fields. -/

variable {w : OpWord}

theorem portWord_fields (hclass : w.extractLsb' 17 3 = 0#3) :
    portWord (w.getLsbD 16) (w.extractLsb' 8 8) (w.extractLsb' 0 8) = w := by
  rw [extractLsb'_eq_iff, BitVec.toNat_ofNat] at hclass
  rw [← BitVec.toNat_inj, toNat_portWord, toNat_getLsbD, toNat_extractLsb', toNat_extractLsb']
  omega

theorem keyWord_fields (hclass : w.extractLsb' 17 3 = 1#3) (hzero : w.extractLsb' 5 12 = 0#12) :
    keyWord (w.getLsbD 4) (w.extractLsb' 0 4) = w := by
  rw [extractLsb'_eq_iff, BitVec.toNat_ofNat] at hclass hzero
  rw [← BitVec.toNat_inj, toNat_keyWord, toNat_getLsbD, toNat_extractLsb']
  omega

theorem bareWord_fields (hzero : w.extractLsb' 0 17 = 0#17) : bareWord (w.extractLsb' 17 3) = w := by
  rw [extractLsb'_eq_iff, BitVec.toNat_ofNat] at hzero
  rw [← BitVec.toNat_inj, toNat_bareWord, toNat_extractLsb']
  omega

theorem halfWord_fields (hclass : w.extractLsb' 17 3 = 3#3) (hzero : w.extractLsb' 2 15 = 0#15) :
    halfWord (w.extractLsb' 0 2) = w := by
  rw [extractLsb'_eq_iff, BitVec.toNat_ofNat] at hclass hzero
  rw [← BitVec.toNat_inj, toNat_halfWord, toNat_extractLsb']
  omega

theorem loopWord_fields (hclass : w.extractLsb' 17 3 = 4#3) (hzero : w.extractLsb' 4 13 = 0#13) :
    loopWord (w.getLsbD 3) (w.extractLsb' 0 3).toFin = w := by
  rw [extractLsb'_eq_iff, BitVec.toNat_ofNat] at hclass hzero
  rw [← BitVec.toNat_inj, toNat_loopWord, toNat_getLsbD, BitVec.val_toFin, toNat_extractLsb']
  omega

end Sys2Proof
end

section
/-! PROOFS. The decoder inverts the encoder (R90 to R96). -/

namespace Sys2Proof

/-- A port word is of class 000, and its format has every field where the word puts it. -/
theorem decode_portWord (write : Bool) (p data : Byte) :
    decode (portWord write p data) =
      if write then .ok (portWriteInstr p data)
      else if data = 0#8 then .ok (portReadInstr p) else .error .readData := by
  have hp := p.isLt
  have hdata := data.isLt
  have hdir := write.toNat_lt
  have hclass : (portWord write p data).extractLsb' 17 3 = 0#3 := by
    rw [extractLsb'_eq_iff, toNat_portWord, BitVec.toNat_ofNat]
    omega
  have hwrite : (portWord write p data).getLsbD 16 = write := by
    rw [getLsbD_eq_iff, toNat_portWord]
    omega
  have hport : (portWord write p data).extractLsb' 8 8 = p := by
    rw [extractLsb'_eq_iff, toNat_portWord]
    omega
  have hlow : (portWord write p data).extractLsb' 0 8 = data := by
    rw [extractLsb'_eq_iff, toNat_portWord]
    omega
  simp only [decode, hclass, BitVec.toNat_ofNat, decodeFormatP, hwrite, hport, hlow]

theorem decode_portRead (p : Byte) : decode (portWord false p 0#8) = .ok (portReadInstr p) :=
  decode_portWord false p 0#8

theorem decode_portWrite (p v : Byte) : decode (portWord true p v) = .ok (portWriteInstr p v) :=
  decode_portWord true p v

theorem decode_keyWord (down : Bool) (k : BitVec 4) : decode (keyWord down k) = keyInstr k down := by
  revert down k; decide

theorem decode_loopWord (stop : Bool) (i : SoundIndex) :
    decode (loopWord stop i) = .ok (if stop then .loopStop i else .loopStart i) := by
  revert stop i; decide

/-- Settles O48: the word of each format decodes to the row of its fields, and a well-formed unmapped access lies in
the row of its port. -/
theorem decodeOfEncode : Obligations.DecodeOfEncode := by
  intro i hi
  cases i with
  | in0 | in1 | in2 | in3 => exact decode_portRead _
  | out2 v | out3 v | out4 v | out5 v => exact decode_portWrite _ v
  | inUnmapped4 p | inUnmapped8 p | inUnmapped16 p | inUnmapped32 p | inUnmapped64 p | inUnmapped128 p =>
    obtain ⟨hlo, hhi⟩ := of_decide_eq_true hi
    rw [encode, decode_portRead]
    simp (disch := omega) only [portReadInstr, if_neg, if_pos]
  | outUnmapped0 p v | outUnmapped6 p v | outUnmapped8 p v | outUnmapped16 p v | outUnmapped32 p v
  | outUnmapped64 p v | outUnmapped128 p v =>
    obtain ⟨hlo, hhi⟩ := of_decide_eq_true hi
    rw [encode, decode_portWrite]
    simp (disch := omega) only [portWriteInstr, if_neg, if_pos]
  | keyP1Start down | keyP1Shoot down | keyP1Left down | keyP1Right down | keyP2Start down | keyP2Shoot down
  | keyP2Left down | keyP2Right down | keyCoin down | keyTilt down => exact decode_keyWord down _
  | loopStart n => exact decode_loopWord false n
  | loopStop n => exact decode_loopWord true n
  | tick | decodeTop | decodeBottom | decodeFull | poll | reset => rfl

end Sys2Proof
end

section
/-! PROOFS. The encoder inverts the decoder, format by format (R90 to R99). -/

namespace Sys2Proof

variable {w : OpWord} {i : Instr}

/-- The eight classes of R90. -/
theorem class_cases (c : BitVec 3) :
    c = 0#3 ∨ c = 1#3 ∨ c = 2#3 ∨ c = 3#3 ∨ c = 4#3 ∨ c = 5#3 ∨ c = 6#3 ∨ c = 7#3 := by
  revert c; decide

/-! The rows of format P and format K are well-formed, and their words hold the port or the key (R93, R96).
A row of one port has that port's number; a row of a block of ports has the number as an operand. -/

theorem portReadInstr_sound (p : Byte) :
    (portReadInstr p).WellFormed ∧ encode (portReadInstr p) = portWord false p 0#8 := by
  have hmapped {q : Byte} (hq : p.toNat = q.toNat) : portWord false q 0#8 = portWord false p 0#8 := by
    rw [BitVec.eq_of_toNat_eq hq]
  unfold portReadInstr
  split_ifs
  iterate 4 exact ⟨rfl, hmapped ‹p.toNat = _›⟩
  all_goals exact ⟨decide_eq_true (by omega), rfl⟩

theorem portWriteInstr_sound (p v : Byte) :
    (portWriteInstr p v).WellFormed ∧ encode (portWriteInstr p v) = portWord true p v := by
  have hmapped {q : Byte} (hq : p.toNat = q.toNat) : portWord true q v = portWord true p v := by
    rw [BitVec.eq_of_toNat_eq hq]
  unfold portWriteInstr
  split_ifs
  on_goal 1 => exact ⟨decide_eq_true (by omega), rfl⟩
  iterate 4 exact ⟨rfl, hmapped ‹p.toNat = _›⟩
  all_goals exact ⟨decide_eq_true (by omega), rfl⟩

theorem keyInstr_sound {k : BitVec 4} {down : Bool} (h : keyInstr k down = .ok i) :
    i.WellFormed ∧ encode i = keyWord down k := by
  unfold keyInstr at h
  split at h <;> cases h <;>
    exact ⟨rfl, congrArg (keyWord down) (BitVec.eq_of_toNat_eq (Eq.symm ‹k.toNat = _›))⟩

/-! What each format decodes is the operation of the word. -/

theorem decodeFormatP_sound (hclass : w.extractLsb' 17 3 = 0#3) (h : decodeFormatP w = .ok i) :
    i.WellFormed ∧ encode i = w := by
  have hw := portWord_fields hclass
  simp only [decodeFormatP] at h
  split_ifs at h with hwrite hdata <;> cases h
  · rw [hwrite] at hw
    exact (portWriteInstr_sound _ _).imp_right (·.trans hw)
  · rw [Bool.eq_false_of_not_eq_true hwrite, hdata] at hw
    exact (portReadInstr_sound _).imp_right (·.trans hw)

theorem decodeFormatK_sound (hclass : w.extractLsb' 17 3 = 1#3) (h : decodeFormatK w = .ok i) :
    i.WellFormed ∧ encode i = w := by
  unfold decodeFormatK at h
  split_ifs at h with hzero
  exact (keyInstr_sound h).imp_right (·.trans (keyWord_fields hclass hzero))

theorem decodeBare_sound {c : BitVec 3} {j : Instr} (hclass : w.extractLsb' 17 3 = c) (hj : j.WellFormed)
    (hword : encode j = bareWord c) (h : decodeBare w j = .ok i) : i.WellFormed ∧ encode i = w := by
  unfold decodeBare at h
  split_ifs at h with hzero
  cases h
  exact ⟨hj, hword.trans (hclass ▸ bareWord_fields hzero)⟩

theorem decodeFormatD_sound (hclass : w.extractLsb' 17 3 = 3#3) (h : decodeFormatD w = .ok i) :
    i.WellFormed ∧ encode i = w := by
  unfold decodeFormatD at h
  split_ifs at h with hzero
  have hw := halfWord_fields hclass hzero
  split at h <;> cases h <;>
    exact ⟨rfl, (congrArg halfWord (BitVec.eq_of_toNat_eq (Eq.symm ‹(w.extractLsb' 0 2).toNat = _›))).trans hw⟩

theorem decodeFormatL_sound (hclass : w.extractLsb' 17 3 = 4#3) (h : decodeFormatL w = .ok i) :
    i.WellFormed ∧ encode i = w := by
  simp only [decodeFormatL] at h
  split_ifs at h with hzero hstop <;> cases h
  all_goals
    have hw := loopWord_fields hclass hzero
    simp only [hstop] at hw
    exact ⟨rfl, hw⟩

/-- Settles O49: by the class of the word; each format's fields give the word back. -/
theorem encodeOfDecode : Obligations.EncodeOfDecode := by
  intro w i h
  obtain hc | hc | hc | hc | hc | hc | hc | hc := class_cases (w.extractLsb' 17 3) <;> rw [decode, hc] at h
  · exact decodeFormatP_sound hc h
  · exact decodeFormatK_sound hc h
  · exact decodeBare_sound hc rfl rfl h
  · exact decodeFormatD_sound hc h
  · exact decodeFormatL_sound hc h
  · exact decodeBare_sound hc rfl rfl h
  · exact decodeBare_sound hc rfl rfl h
  · cases h

end Sys2Proof
end

section
/-! PROOFS. The reserved words (R98). -/

namespace Sys2Proof

variable {w : OpWord}

theorem decodeFormatP_error_iff :
    (∃ e, decodeFormatP w = .error e) ↔ w.getLsbD 16 = false ∧ w.extractLsb' 0 8 ≠ 0#8 := by
  simp only [decodeFormatP]
  split_ifs with hwrite hdata
  · simp [hwrite]
  · simp [hdata]
  · exact ⟨fun _ => ⟨Bool.eq_false_of_not_eq_true hwrite, hdata⟩, fun _ => ⟨_, rfl⟩⟩

theorem keyInstr_error_iff {k : BitVec 4} {down : Bool} : (∃ e, keyInstr k down = .error e) ↔ 10 ≤ k.toNat := by
  unfold keyInstr
  split <;> grind

theorem decodeFormatK_error_iff :
    (∃ e, decodeFormatK w = .error e) ↔ 10 ≤ (w.extractLsb' 0 4).toNat ∨ w.extractLsb' 5 12 ≠ 0#12 := by
  unfold decodeFormatK
  split_ifs with hzero
  · simp only [keyInstr_error_iff, hzero, ne_eq, not_true, or_false]
  · simp [hzero]

theorem decodeBare_error_iff {i : Instr} : (∃ e, decodeBare w i = .error e) ↔ w.extractLsb' 0 17 ≠ 0#17 := by
  unfold decodeBare
  split_ifs with hzero <;> simp [hzero]

theorem decodeFormatD_error_iff :
    (∃ e, decodeFormatD w = .error e) ↔ w.extractLsb' 0 2 = 0b11#2 ∨ w.extractLsb' 2 15 ≠ 0#15 := by
  unfold decodeFormatD
  split_ifs with hzero
  · have hhalf := (w.extractLsb' 0 2).isLt
    rw [← BitVec.toNat_inj]
    split <;> grind
  · simp [hzero]

theorem decodeFormatL_error_iff : (∃ e, decodeFormatL w = .error e) ↔ w.extractLsb' 4 13 ≠ 0#13 := by
  simp only [decodeFormatL]
  split_ifs with hzero <;> simp [hzero]

/-- A port read is a word of class 000 whose `dir` is 0. -/
theorem extractLsb'_dir_eq_zero_iff :
    w.extractLsb' 16 4 = 0b0000#4 ↔ w.extractLsb' 17 3 = 0#3 ∧ w.getLsbD 16 = false := by
  rw [extractLsb'_eq_iff, extractLsb'_eq_iff, getLsbD_eq_iff, BitVec.toNat_ofNat, BitVec.toNat_ofNat, Bool.toNat_false]
  omega

/-- Settles O50: by the class of the word; each format refuses its own entries of the list. -/
theorem reservedWordsListed : Obligations.ReservedWordsListed := by
  intro w
  rw [extractLsb'_dir_eq_zero_iff]
  obtain hc | hc | hc | hc | hc | hc | hc | hc := class_cases (w.extractLsb' 17 3) <;> rw [decode, hc]
  · simp [decodeFormatP_error_iff]
  · simp [decodeFormatK_error_iff]
  · simp [decodeBare_error_iff]
  · simp [decodeFormatD_error_iff]
  · simp [decodeFormatL_error_iff]
  · simp [decodeBare_error_iff]
  · simp [decodeBare_error_iff]
  · simp

/-- Settles O51: the decoder evaluated on each word. -/
theorem sampleWordsDecode : Obligations.SampleWordsDecode := by
  unfold Obligations.SampleWordsDecode
  decide

end Sys2Proof
end

section
/-! PROOFS. A step on a reserved word and on a word placed in front of the requests. -/

namespace Sys2Proof.Machine

/-- The branch of `step` for a reserved word. -/
theorem step_of_decode_error {s t : State} {w : OpWord} {e : ReservedWord} (hn : nextOperation s = some (w, t))
    (hd : decode w = .error e) : step s = .refused (.reservedOperation w) := by
  simp only [step, hn, hd]

/-- Settles O53: the first request is the next operation, and a word the decoder refuses has one branch of `step`. -/
theorem stepRefusesReservedWord : Obligations.StepRefusesReservedWord :=
  fun _ _ _ _ hs hd => step_of_decode_error (nextOperation_of_requests_cons hs) hd

theorem decode_tableWord_of_decodeTableWord {n w : Nat} {i : Instr} (h : decodeTableWord n w = some i) :
    decode (tableWord w) = .ok i := by
  unfold decodeTableWord at h
  split at h <;> cases h
  assumption

/-- A placed word is the next operation, and the requests that were waiting are left. -/
theorem nextOperation_withFetchWord (s : State) (n w : Nat) :
    nextOperation (s.withFetchWord n w) = some (tableWord w, { s with now := max s.now s.lastTime }) := rfl

/-- Settles O55: the placed word is the next operation, and it decodes. -/
theorem placedWordRunsNext : Obligations.PlacedWordRunsNext :=
  fun s n w _ h => step_of_decode_ok (nextOperation_withFetchWord s n w) (decode_tableWord_of_decodeTableWord h)

end Sys2Proof.Machine
end

section
/-! PROOFS. What a decode leaves in the framebuffer, byte by byte (R192, R195), and what a poll leaves in the latches
(R210, R211). -/

namespace Sys2Proof.Machine

/-! The decode. -/

/-- The inverse of the pixel mapping that the model uses is the mapping of R192. -/
theorem cell_eq_iff_pixel_eq {n b : Nat} (cx : Fin 224) (cy : Fin 256) (hb : b < 8) :
    (cx.val = n / 32 ∧ cy.val = 255 - (n % 32 * 8 + b)) ↔ (pixelByte cx cy = n ∧ pixelBit cy = b) := by
  have hcy := cy.isLt
  unfold pixelByte pixelBit
  omega

/-- A decode of the video bytes `lo` to `hi - 1` is the one R195 writes byte by byte. -/
theorem decodedInto_decodeBytes (lo hi : Nat) (m : Memory) (fb : Framebuffer) :
    DecodedInto lo hi m fb (decodeBytes lo hi m fb) := by
  intro n b cx cy _ hb hcx hcy
  obtain ⟨hbyte, hbit⟩ := (cell_eq_iff_pixel_eq cx cy hb).1 ⟨hcx, hcy⟩
  rw [cellAt_decodeBytes, hbyte, hbit]
  rfl

/-- The decode of a half, with the bytes of each (R196, R197, D18). -/
theorem decodedInto_decodeHalf (half : FrameHalf) (s : State) :
    (half = .top → DecodedInto 0 3584 s.mem s.framebuffer (decodeHalf half s).framebuffer) ∧
      (half = .bottom → DecodedInto 3584 7168 s.mem s.framebuffer (decodeHalf half s).framebuffer) := by
  refine ⟨?_, ?_⟩ <;> rintro rfl <;> exact decodedInto_decodeBytes _ _ s.mem s.framebuffer

/-! The poll. -/

/-- A latch after the events of `ks`, each key down or up as `keysDown` says. -/
def latchAfterKeys (keysDown ks : List LogicalKey) (latch : Byte) : Byte :=
  ks.foldl (fun latch k => setKeyBit (keyMask k) (decide (k ∈ keysDown)) latch) latch

/-- Polling keys gives each latch the events of its own keys, in order. -/
theorem foldl_pollKey_ports (ks : List LogicalKey) (s : State) :
    (ks.foldl pollKey s).port1 = latchAfterKeys s.keysDown (ks.filter (keyPort · = .port1)) s.port1 ∧
      (ks.foldl pollKey s).port2 = latchAfterKeys s.keysDown (ks.filter (keyPort · = .port2)) s.port2 := by
  induction ks generalizing s with
  | nil => exact ⟨rfl, rfl⟩
  | cons k ks ih =>
    rw [List.foldl_cons, (ih _).1, (ih _).2, pollKey_keysDown]
    cases h : keyPort k with
    | port1 => simp [pollKey, handleKeyChange_of_port1 h, h, latchAfterKeys]
    | port2 => simp [pollKey, handleKeyChange_of_port2 h, h, latchAfterKeys]

/-- A poll makes the assigned bits the key-down state: no two keys of a latch share a bit. -/
theorem polledLatches_pollKeys (s : State) : PolledLatches s (pollKeys s) := by
  obtain ⟨hport1, hport2⟩ := foldl_pollKey_ports allKeys s
  rw [PolledLatches, pollKeys, hport1, hport2]
  simp [allKeys, latchAfterKeys, getElem_setKeyBit, keyPort, keyMask]

end Sys2Proof.Machine
end

section
/-! PROOFS. One scheduler iteration, step by step of R120: what each step changes and what it appends to the trace. -/

namespace Sys2Proof.Machine

variable (core : CpuCore) (s : State)

/-- `u` is `s` but for what steps 1 to 4 of an iteration may change: the clock, and what the interrupt and the CPU steps
reach. -/
def OnlyRunReach (s u : State) : Prop :=
  u = { s with
    started := u.started, lastTime := u.lastTime, frameHalf := u.frameHalf, nextInterruptTime := u.nextInterruptTime,
    cpu := u.cpu, mem := u.mem, shiftData := u.shiftData, shiftAmount := u.shiftAmount, latch3Prev := u.latch3Prev,
    latch5Prev := u.latch5Prev, out := u.out }

theorem OnlyRunReach_refl : OnlyRunReach s s := rfl

section

variable {s t u : State}

theorem OnlyRunReach_trans (h : OnlyRunReach s t) (h' : OnlyRunReach t u) : OnlyRunReach s u := by
  unfold OnlyRunReach at *
  rw [h', h]

theorem OnlyRunReach_of_cpu (h : OnlyCpuReach s t) : OnlyRunReach s t := by
  rw [h]
  rfl

theorem OnlyRunReach.framebuffer_eq (h : OnlyRunReach s t) : t.framebuffer = s.framebuffer := by rw [h]

/-- A poll after steps 1 to 4 finds the keys and the latches as they were before. -/
theorem OnlyRunReach.polledLatches (h : OnlyRunReach s t) (hpolled : PolledLatches t u) : PolledLatches s u := by
  rw [h] at hpolled
  exact hpolled

theorem setLastTime_polledLatches (hpolled : PolledLatches s t) (n : Nat) : PolledLatches s (t.setLastTime n) := hpolled

end

/-! Step 1: the clock. -/

theorem beginIteration_of_started {s : State} (hs : s.started = true) : beginIteration s = s := if_pos hs

theorem beginIteration_of_not_started {s : State} (hs : s.started = false) : beginIteration s = s.startClock := by
  simp [beginIteration, hs]

theorem beginIteration_reach : OnlyRunReach s (beginIteration s) := by
  cases hs : s.started with
  | true => rw [beginIteration_of_started hs]; exact OnlyRunReach_refl s
  | false => rw [beginIteration_of_not_started hs]; rfl

theorem beginIteration_frameHalf : (beginIteration s).frameHalf = s.frameHalf := by
  unfold beginIteration
  split <;> rfl

theorem beginIteration_out : (beginIteration s).out = s.out := by
  unfold beginIteration
  split <;> rfl

/-! Step 3: the interrupt. -/

/-- What step 3 appends to the trace (R123). -/
def interruptEvents (s : State) : List Event := if interruptDue s then [.intReq (halfVector s.frameHalf)] else []

theorem interruptEvents_of_due {s : State} (hdue : interruptDue s = true) :
    interruptEvents s = [.intReq (halfVector s.frameHalf)] := if_pos hdue

theorem interruptEvents_of_not_due {s : State} (hdue : interruptDue s = false) : interruptEvents s = [] := by
  simp [interruptEvents, hdue]

theorem cpuCycles_interruptEvents : cpuCycles (interruptEvents s) = [] := by
  unfold interruptEvents
  split <;> rfl

theorem interruptDue_eq_true_iff :
    interruptDue s = true ↔ s.nextInterruptTime < s.now ∧ s.cpu.interruptEnabled = true := by
  simp [interruptDue]

theorem interruptDue_eq_false_iff :
    interruptDue s = false ↔ s.cpu.interruptEnabled = false ∨ s.now ≤ s.nextInterruptTime := by
  rw [Bool.eq_false_iff, ne_eq, interruptDue_eq_true_iff, not_and_or, not_lt, Bool.not_eq_true, or_comm]

theorem interruptIfDue_of_due {s : State} (hdue : interruptDue s = true) :
    interruptIfDue core s = injectInterrupt core s := if_pos hdue

theorem interruptIfDue_of_not_due {s : State} (hdue : interruptDue s = false) : interruptIfDue core s = s := by
  simp [interruptIfDue, hdue]

/-- An injection in full, with the half-frame of D2. -/
theorem injectInterrupt_eq : injectInterrupt core s =
    { s with
      out := s.out ++ [.intReq (halfVector s.frameHalf)]
      frameHalf := otherHalf s.frameHalf
      nextInterruptTime := s.nextInterruptTime + 8333
      cpu := (core.requestInterrupt s.cpu s.mem (halfVector s.frameHalf)).regs
      mem := storeCells s.mem (core.requestInterrupt s.cpu s.mem (halfVector s.frameHalf)).stores } := rfl

theorem interruptIfDue_reach : OnlyRunReach s (interruptIfDue core s) := by
  unfold interruptIfDue
  split <;> rfl

theorem interruptIfDue_out : (interruptIfDue core s).out = s.out ++ interruptEvents s := by
  unfold interruptIfDue interruptEvents
  split
  · rfl
  · exact (List.append_nil _).symm

/-! Step 4: the CPU. -/

/-- Two cycles for each microsecond, for at most one second (R125, R126). -/
theorem cycleBudget_eq : cycleBudget s = 2 * min (s.now - s.lastTime) 1000000 := by
  simp only [cycleBudget, elapsedTime, clockHz, maxElapsed, timeUnitsPerSecond]
  omega

/-- The interrupt does not move the budget. -/
theorem cycleBudget_interruptIfDue : cycleBudget (interruptIfDue core s) = cycleBudget s := by
  unfold interruptIfDue
  split <;> rfl

/-- `es` is what the CPU steps of a cycle budget append to the trace (R127, R128, R131). -/
structure SpendsBudget (budget : Nat) (es : List Event) : Prop where
  groups : CpuGroups es
  positive : ∀ c ∈ cpuCycles es, 1 ≤ c
  met : budget ≤ (cpuCycles es).sum
  unmetBeforeLast : es ≠ [] → (cpuCycles es).dropLast.sum < budget

theorem SpendsBudget_zero {es : List Event} (h : SpendsBudget 0 es) : es = [] :=
  by_contra fun hne => Nat.not_lt_zero _ (h.unmetBeforeLast hne)

theorem spendBudget_out :
    ∃ es, (spendBudget core s).out = s.out ++ es ∧ SpendsBudget (cycleBudget s) es := by
  obtain ⟨-, -, es, hout, hgroups, hpos, hmet, hlast⟩ := runCycles_reach core (cycleBudget s) (cycleBudget s) 0 s
  simp only [Nat.zero_add] at hmet hlast
  exact ⟨es, hout, hgroups, hpos, hmet le_rfl, hlast⟩

theorem spendBudget_reach : OnlyCpuReach s (spendBudget core s) :=
  (runCycles_reach core (cycleBudget s) (cycleBudget s) 0 s).1

/-- Step 4 is the loop of R127. -/
theorem spendBudget_cpuRun : CpuRun core (cycleBudget s) 0 s (spendBudget core s) :=
  runCycles_cpuRun core _ _ 0 s (Nat.zero_add _).ge

theorem spendBudget_of_budget_zero {s : State} (h : cycleBudget s = 0) : spendBudget core s = s := by
  rw [spendBudget, h]
  rfl

/-! Step 5: the decode, the presentation and the poll. -/

theorem decodeHalf_setFramebuffer (half : FrameHalf) :
    decodeHalf half s = s.setFramebuffer (decodeHalf half s).framebuffer := by
  cases half <;> rfl

/-- Step 5 with any buffer `fb` in place of the decoded one: the rest of the step does not depend on what was decoded,
so its laws need not look into the decode. -/
def presentAndPoll (fb : Framebuffer) (s : State) : State := pollKeys ((s.setFramebuffer fb).emit (.present fb))

theorem refreshAndPoll_eq (redraw : FrameHalf) :
    refreshAndPoll redraw s = presentAndPoll (decodeHalf redraw s).framebuffer s := by
  rw [presentAndPoll, ← decodeHalf_setFramebuffer, refreshAndPoll]

theorem presentAndPoll_framebuffer (fb : Framebuffer) : (presentAndPoll fb s).framebuffer = fb := by
  rw [presentAndPoll, pollKeys_reach]
  rfl

/-- The poll comes last and finds the keys and the latches as they were. -/
theorem presentAndPoll_polledLatches (fb : Framebuffer) : PolledLatches s (presentAndPoll fb s) :=
  polledLatches_pollKeys ((s.setFramebuffer fb).emit (.present fb))

/-- `t` is `u` after steps 5 and 6 of an iteration at the time `now`: one `Present`, of the buffer `t` holds. -/
def RefreshedAt (now : Nat) (u t : State) : Prop :=
  t = { u with
    lastTime := now, framebuffer := t.framebuffer, port1 := t.port1, port2 := t.port2,
    out := u.out ++ [.present t.framebuffer] }

section

variable {now : Nat} {u t : State} (h : RefreshedAt now u t)
include h

theorem RefreshedAt.mem_eq : t.mem = u.mem := by rw [h]
theorem RefreshedAt.frameHalf_eq : t.frameHalf = u.frameHalf := by rw [h]
theorem RefreshedAt.nextInterruptTime_eq : t.nextInterruptTime = u.nextInterruptTime := by rw [h]
theorem RefreshedAt.out_eq : t.out = u.out ++ [.present t.framebuffer] := congrArg State.out h

end

theorem presentAndPoll_refreshedAt (now : Nat) (fb : Framebuffer) :
    RefreshedAt now s ((presentAndPoll fb s).setLastTime now) := by
  have hpolled : presentAndPoll fb s = _ := pollKeys_reach _
  generalize presentAndPoll fb s = t at hpolled
  rw [RefreshedAt, hpolled]
  rfl

/-! The iteration. -/

/-- The state that steps 1 to 4 leave. -/
def iterationRan (core : CpuCore) (s : State) : State := spendBudget core (interruptIfDue core (beginIteration s))

theorem iterationRan_reach : OnlyRunReach s (iterationRan core s) :=
  OnlyRunReach_trans (beginIteration_reach s)
    (OnlyRunReach_trans (interruptIfDue_reach core _) (OnlyRunReach_of_cpu (spendBudget_reach core _)))

theorem iterationRan_started : (iterationRan core s).started = true :=
  (spendBudget_sameClock core _).started.trans ((interruptIfDue_started core _).trans (beginIteration_started s))

theorem iterationRan_of_started {s : State} (hs : s.started = true) :
    iterationRan core s = spendBudget core (interruptIfDue core s) := by
  rw [iterationRan, beginIteration_of_started hs]

/-- In the first iteration no interrupt is due and no time has passed (R121). -/
theorem iterationRan_of_not_started {s : State} (hs : s.started = false) : iterationRan core s = s.startClock := by
  have hdue : interruptDue s.startClock = false :=
    (interruptDue_eq_false_iff _).2 (.inr (Nat.le_add_right s.now halfFrameDuration))
  have hbudget : cycleBudget s.startClock = 0 := by simp [cycleBudget_eq]
  rw [iterationRan, beginIteration_of_not_started hs, interruptIfDue_of_not_due core hdue,
    spendBudget_of_budget_zero core hbudget]

/-- The buffer that step 5 decodes and presents. -/
def iterationBuffer (core : CpuCore) (s : State) : Framebuffer :=
  (decodeHalf (beginIteration s).frameHalf (iterationRan core s)).framebuffer

theorem iteration_eq :
    iteration core s = (presentAndPoll (iterationBuffer core s) (iterationRan core s)).setLastTime s.now :=
  congrArg (State.setLastTime s.now) (refreshAndPoll_eq (iterationRan core s) (beginIteration s).frameHalf)

theorem iteration_framebuffer : (iteration core s).framebuffer = iterationBuffer core s := by
  rw [iteration_eq, setLastTime_framebuffer, presentAndPoll_framebuffer]

/-- An iteration is steps 1 to 4, then steps 5 and 6. -/
theorem iteration_refreshedAt : RefreshedAt s.now (iterationRan core s) (iteration core s) := by
  rw [iteration_eq]
  exact presentAndPoll_refreshedAt (iterationRan core s) s.now (iterationBuffer core s)

/-- An iteration decodes one half, the one step 1 finds, from the memory its CPU steps leave (R122, R129). -/
theorem iteration_decodedInto :
    (s.frameHalf = .top →
      DecodedInto 0 3584 (iteration core s).mem s.framebuffer (iteration core s).framebuffer) ∧
    (s.frameHalf = .bottom →
      DecodedInto 3584 7168 (iteration core s).mem s.framebuffer (iteration core s).framebuffer) := by
  have hmem := (iteration_refreshedAt core s).mem_eq
  have hbefore := (iterationRan_reach core s).framebuffer_eq
  rw [iteration_framebuffer, iterationBuffer, hmem, beginIteration_frameHalf, ← hbefore]
  exact decodedInto_decodeHalf s.frameHalf (iterationRan core s)

theorem iteration_polledLatches : PolledLatches s (iteration core s) := by
  have hpolled := presentAndPoll_polledLatches (iterationRan core s) (iterationBuffer core s)
  rw [iteration_eq]
  exact setLastTime_polledLatches ((iterationRan_reach core s).polledLatches hpolled) s.now

/-- What an iteration appends to the trace, in order (R131). -/
theorem iteration_out : ∃ runs,
    (iteration core s).out =
      s.out ++ interruptEvents (beginIteration s) ++ runs ++ [.present (iteration core s).framebuffer] ∧
    SpendsBudget (cycleBudget (beginIteration s)) runs := by
  obtain ⟨runs, hout, hspends⟩ := spendBudget_out core (interruptIfDue core (beginIteration s))
  rw [interruptIfDue_out, beginIteration_out] at hout
  rw [cycleBudget_interruptIfDue] at hspends
  exact ⟨runs, by rw [(iteration_refreshedAt core s).out_eq, iterationRan, hout], hspends⟩

/-- Of the steps of an iteration the interrupt alone moves `frame_half` and the due time of a started clock. -/
theorem iteration_schedule {s : State} (hs : s.started = true) :
    (iteration core s).frameHalf = (interruptIfDue core s).frameHalf ∧
      (iteration core s).nextInterruptTime = (interruptIfDue core s).nextInterruptTime := by
  have hrefreshed := iteration_refreshedAt core s
  rw [iterationRan_of_started core hs] at hrefreshed
  have hclock := spendBudget_sameClock core (interruptIfDue core s)
  exact ⟨hrefreshed.frameHalf_eq.trans hclock.frameHalf,
    hrefreshed.nextInterruptTime_eq.trans hclock.nextInterruptTime⟩

end Sys2Proof.Machine
end

section
/-! PROOFS. The Machine Clock: `TICK` (R120 to R134). -/

namespace Sys2Proof.Machine

variable {s t : State}

/-- A `TICK` whose time has not gone backwards runs one iteration (R120, R134). -/
theorem exec_tick_of_le (h : s.started = true → s.lastTime ≤ s.now) :
    exec .tick s = .next (iteration Config.cpuCore s) :=
  if_neg fun ⟨hs, hlt⟩ => Nat.not_lt_of_le (h hs) hlt

/-- Settles O30: the guard of step 0. -/
theorem tickRefusesEarlierTime : Obligations.TickRefusesEarlierTime :=
  fun _ hs hlt => if_pos ⟨hs, hlt⟩

/-- What steps 1 to 4 and then steps 5 and 6 leave as it was is what R120 does not list. -/
theorem tickFrame_of_refreshedAt {u : State} (hran : OnlyRunReach s u) (hstarted : u.started = true)
    (hrefreshed : RefreshedAt s.now u t) :
    t = { s with
      started := true, lastTime := s.now, nextInterruptTime := t.nextInterruptTime, frameHalf := t.frameHalf,
      framebuffer := t.framebuffer, port1 := t.port1, port2 := t.port2, cpu := t.cpu, mem := t.mem,
      shiftData := t.shiftData, shiftAmount := t.shiftAmount, latch3Prev := t.latch3Prev, latch5Prev := t.latch5Prev,
      out := t.out } := by
  rw [hrefreshed, hran, hstarted]

/-- Settles O29: what steps 1 to 4 may change, and steps 5 and 6 after them. -/
theorem tickCompletes : Obligations.TickCompletes :=
  ⟨by decide, fun s h => ⟨iteration Config.cpuCore s, exec_tick_of_le h,
    tickFrame_of_refreshedAt (iterationRan_reach _ s) (iterationRan_started _ s) (iteration_refreshedAt _ s),
    iteration_polledLatches _ s⟩⟩

/-- Settles O31: after step 1 the first iteration goes straight to step 5. -/
theorem firstTick : Obligations.FirstTick := by
  intro s hs
  have hrefreshed := iteration_refreshedAt Config.cpuCore s
  rw [iterationRan_of_not_started _ hs] at hrefreshed
  obtain ⟨htop, hbottom⟩ := iteration_decodedInto Config.cpuCore s
  rw [hrefreshed.mem_eq] at htop hbottom
  exact ⟨iteration Config.cpuCore s, exec_tick_of_le (by simp [hs]), hrefreshed, htop, hbottom,
    iteration_polledLatches _ s⟩

/-- Settles O39: step 3 appends a request or nothing, step 4 the CPU groups, step 5 the `Present`. -/
theorem tickEventOrder : Obligations.TickEventOrder := by
  intro s t h
  rw [eq_iteration_of_tickWith_next h]
  obtain ⟨runs, hout, hspends⟩ := iteration_out Config.cpuCore s
  refine ⟨_, runs, hout, ?_, hspends.groups⟩
  rw [interruptEvents, beginIteration_frameHalf]
  split
  · right
    cases s.frameHalf <;> rfl
  · exact .inl rfl

/-- Settles O40: step 5 of an iteration, on the half of step 2. -/
theorem tickRefreshesOneHalf : Obligations.TickRefreshesOneHalf := by
  intro s t h
  rw [eq_iteration_of_tickWith_next h]
  exact iteration_decodedInto Config.cpuCore s

/-- Settles O32: an injection, then CPU steps and one `Present`, which request nothing. -/
theorem dueInterruptInjected : Obligations.DueInterruptInjected := by
  intro s hs hle hen hlt
  have hdue := (interruptDue_eq_true_iff s).2 ⟨hlt, hen⟩
  obtain ⟨runs, hout, hspends⟩ := iteration_out Config.cpuCore s
  obtain ⟨hhalf, htime⟩ := iteration_schedule Config.cpuCore hs
  rw [beginIteration_of_started hs, interruptEvents_of_due hdue, List.append_assoc _ runs] at hout
  rw [interruptIfDue_of_due _ hdue, injectInterrupt_eq] at hhalf htime
  refine ⟨iteration Config.cpuCore s, runs ++ [.present (iteration Config.cpuCore s).framebuffer],
    exec_tick_of_le fun _ => hle, hout.trans ?_, ?_, hhalf.trans ?_, htime⟩
  · cases s.frameHalf <;> rfl
  · rw [intVectors_append, intVectors_of_cpuEvents runs hspends.groups.1]
    rfl
  · cases s.frameHalf <;> rfl

/-- Settles O33: no request, and nothing but a request moves `frame_half` and the due time. -/
theorem noInterruptUnlessDue : Obligations.NoInterruptUnlessDue := by
  intro s hs hle hnot
  have hdue := (interruptDue_eq_false_iff s).2 hnot
  obtain ⟨runs, hout, hspends⟩ := iteration_out Config.cpuCore s
  obtain ⟨hhalf, htime⟩ := iteration_schedule Config.cpuCore hs
  rw [beginIteration_of_started hs, interruptEvents_of_not_due hdue, List.append_nil] at hout
  rw [interruptIfDue_of_not_due _ hdue] at hhalf htime
  refine ⟨iteration Config.cpuCore s, exec_tick_of_le fun _ => hle, ?_, hhalf, htime⟩
  rw [hout, intVectors_append, intVectors_append, intVectors_of_cpuEvents runs hspends.groups.1, List.append_nil]
  exact List.append_nil _

/-- Settles O34: the cycles of an iteration are those of its step 4. -/
theorem cycleBudgetSpent : Obligations.CycleBudgetSpent := by
  intro s hs hle
  obtain ⟨runs, hout, hspends⟩ := iteration_out Config.cpuCore s
  rw [beginIteration_of_started hs, List.append_assoc, List.append_assoc, ← List.append_assoc _ runs] at hout
  rw [beginIteration_of_started hs, cycleBudget_eq] at hspends
  have hcycles : cpuCycles (interruptEvents s ++ runs ++ [.present (iteration Config.cpuCore s).framebuffer]) =
      cpuCycles runs := by
    rw [cpuCycles_append, cpuCycles_append, cpuCycles_interruptEvents]
    exact List.append_nil _
  refine ⟨iteration Config.cpuCore s, _, exec_tick_of_le fun _ => hle, hout, ?_⟩
  rw [hcycles]
  refine ⟨hspends.positive, hspends.met, fun hne => hspends.unmetBeforeLast ?_, fun heq => ?_⟩
  · rintro rfl
    exact hne rfl
  · rw [heq, Nat.sub_self, Nat.zero_min] at hspends
    rw [SpendsBudget_zero hspends]
    rfl

/-- Settles O38: steps 3 and 4 of an iteration, then step 5. -/
theorem tickRunsTheCore : Obligations.TickRunsTheCore := by
  intro s hs hle
  have hrefreshed := iteration_refreshedAt Config.cpuCore s
  rw [iterationRan_of_started _ hs] at hrefreshed
  have hrun := spendBudget_cpuRun Config.cpuCore (interruptIfDue Config.cpuCore s)
  rw [cycleBudget_interruptIfDue, cycleBudget_eq] at hrun
  refine ⟨iteration Config.cpuCore s, _, _, exec_tick_of_le fun _ => hle, fun hen hlt => ?_, fun hnot => ?_, hrun,
    hrefreshed⟩
  · rw [interruptIfDue_of_due _ ((interruptDue_eq_true_iff s).2 ⟨hlt, hen⟩), injectInterrupt_eq]
    cases s.frameHalf <;> rfl
  · exact interruptIfDue_of_not_due _ ((interruptDue_eq_false_iff s).2 hnot)

/-- Settles O36: a store is a write of memory, and a CPU step runs what the core answers. -/
theorem cpuStepStoresAndEnd : Obligations.CpuStepStoresAndEnd :=
  ⟨fun a v _ s => ⟨s.setMem (writeByte s.mem a v), rfl, rfl, fun hwf =>
      ⟨writeByte_wf s.mem a v hwf, (readByte_writeByte s.mem a a v hwf).trans (if_pos rfl),
        fun b hb => (readByte_writeByte s.mem a b v hwf).trans (if_neg hb)⟩⟩,
    fun _ _ _ => rfl, fun _ _ => rfl⟩

/-- Settles O54: with no request there is no next operation. -/
theorem idleStepChangesNothing : Obligations.IdleStepChangesNothing := by
  intro s hs
  simp only [step, nextOperation, hs]

end Sys2Proof.Machine
end

section
/-! PROOFS. The port map: what the words of `IN p` and `OUT p, v` run, for every port (R154, R155, R160, R162). -/

namespace Sys2Proof.Machine

/-- The word of `IN p`, as a format P word (R91). -/
theorem portWord_read (p : Byte) : portWord false p 0#8 = p.setWidth 20 <<< 8 := by
  simp [portWord]

theorem decode_readWord (p : Byte) : decode (p.setWidth 20 <<< 8) = .ok (portReadInstr p) := by
  rw [← portWord_read, decode_portRead]

/-! A number of 4 or more is no mapped port to read, and one below 2 or above 5 none to write. -/

theorem portRead_of_unmapped {p : Byte} (hp : 3 < p.toNat) (s : State) : portRead s p = 0x00#8 := by
  rw [portRead, if_neg, if_neg, if_neg, if_neg]
  all_goals
    rintro rfl
    exact absurd hp (by decide)

theorem portWrite_of_unmapped {p : Byte} (hp : p.toNat < 2 ∨ 5 < p.toNat) (v : Byte) (s : State) :
    portWrite p v s = s := by
  rw [portWrite, if_neg, if_neg, if_neg, if_neg]
  all_goals
    rintro rfl
    exact absurd hp (by decide)

/-- The row of `IN p` reads what the CPU core's `PortRead p` reads (R155). -/
theorem exec_portReadInstr (p : Byte) (s : State) :
    exec (portReadInstr p) s = .next (s.setAccumulator (portRead s p)) := by
  have hmapped {q : Byte} (hq : p.toNat = q.toNat) : p = q := BitVec.eq_of_toNat_eq hq
  unfold portReadInstr
  split_ifs with h0 h1 h2 h3
  · rw [hmapped (q := 0#8) h0]; rfl
  · rw [hmapped (q := 1#8) h1]; rfl
  · rw [hmapped (q := 2#8) h2]; rfl
  · rw [hmapped (q := 3#8) h3]; rfl
  all_goals rw [portRead_of_unmapped (by omega)]; rfl

/-- The row of `OUT p, v` does what the CPU core's `PortWrite p v` does (R162). -/
theorem exec_portWriteInstr (p v : Byte) (s : State) :
    exec (portWriteInstr p v) s = .next (portWrite p v s) := by
  have hmapped {q : Byte} (hq : p.toNat = q.toNat) : p = q := BitVec.eq_of_toNat_eq hq
  unfold portWriteInstr
  split_ifs with h0 h2 h3 h4 h5
  on_goal 2 => rw [hmapped (q := 2#8) h2]; rfl
  on_goal 2 => rw [hmapped (q := 3#8) h3]; rfl
  on_goal 2 => rw [hmapped (q := 4#8) h4]; rfl
  on_goal 2 => rw [hmapped (q := 5#8) h5]; rfl
  all_goals rw [portWrite_of_unmapped (by omega)]; rfl

/-- Settles O3: the word runs a read of a port above 3, and each row's meaning is the unmapped read. -/
theorem unmappedReadsReturnZero : Obligations.UnmappedReadsReturnZero :=
  ⟨fun p s hp => ⟨_, decode_readWord p, by rw [exec_portReadInstr, portRead_of_unmapped hp]; rfl⟩,
    fun _ => ⟨fun _ => rfl, fun _ => rfl, fun _ => rfl, fun _ => rfl, fun _ => rfl, fun _ => rfl⟩⟩

/-- Settles O9: the word runs a write of a port that is not mapped, and each row's meaning is the ignored write. -/
theorem unmappedWritesDoNothing : Obligations.UnmappedWritesDoNothing :=
  ⟨fun p v s hp => ⟨_, decode_portWrite p v, by rw [exec_portWriteInstr, portWrite_of_unmapped hp]⟩,
    fun _ _ _ => ⟨rfl, rfl, rfl, rfl, rfl, rfl, rfl⟩⟩

/-- Settles O10: `OUT p, v` is `PortWrite`, and the decoder gives ports 2 to 5 their own rows. -/
theorem everyPortWriteWord : Obligations.EveryPortWriteWord := by
  intro p v s
  refine ⟨_, decode_portWrite p v, exec_portWriteInstr p v s, ?_, ?_, ?_, ?_, fun hp => portWrite_of_unmapped hp v s⟩
  all_goals
    intro hp
    simp [portWriteInstr, hp]

/-- Settles O35: inside a step the core calls `PortWrite` and `PortRead`, which are what the `OUT` and `IN` words
run. -/
theorem cpuStepPortAccess : Obligations.CpuStepPortAccess :=
  ⟨fun p v _ s => ⟨_, _, decode_portWrite p v, exec_portWriteInstr p v s, rfl⟩,
    fun p _ s => ⟨_, _, decode_readWord p, exec_portReadInstr p s, rfl⟩⟩

/-- Settles O1: each latch has its own row, whose meaning reads it. -/
theorem inputLatchReads : Obligations.InputLatchReads :=
  ⟨⟨decode_portRead 0#8, decode_portRead 1#8, decode_portRead 2#8⟩, fun _ => rfl, fun _ => rfl, fun _ => rfl,
    fun _ hs => hs ▸ rfl⟩

end Sys2Proof.Machine
end

section
/-! PROOFS. The shift register and its window (R153, R155, R156, R158, R163). -/

namespace Sys2Proof.Machine

/-! The window, as a number and bit by bit. -/

theorem toNat_shiftWindow (data : BitVec 16) (amount : BitVec 3) :
    (shiftWindow data amount).toNat = (data.toNat >>> (8 - amount.toNat)) % 256 := by
  rw [shiftWindow, BitVec.toNat_setWidth, BitVec.toNat_ushiftRight]

theorem getLsbD_shiftWindow (data : BitVec 16) (amount : BitVec 3) {k : Nat} (hk : k < 8) :
    (shiftWindow data amount).getLsbD k = data.getLsbD (8 - amount.toNat + k) := by
  simp [shiftWindow, hk]

/-- A shift left by `a` and then right by 8 is one shift right by `8 - a` (law 1 of R163). -/
theorem shiftLeft_shiftRight_eight (x : Nat) {a : Nat} (ha : a ≤ 8) : x <<< a >>> 8 = x >>> (8 - a) := by
  calc x <<< a >>> 8 = x <<< a >>> (a + (8 - a)) := by rw [Nat.add_sub_cancel' ha]
    _ = x >>> (8 - a) := by rw [Nat.shiftRight_add, Nat.shiftLeft_shiftRight]

theorem toNat_shiftWindow_left (data : BitVec 16) (amount : BitVec 3) :
    (shiftWindow data amount).toNat = (data.toNat <<< amount.toNat >>> 8) % 256 := by
  rw [toNat_shiftWindow, shiftLeft_shiftRight_eight _ (Nat.le_of_lt amount.isLt)]

/-- The window never reaches bit 0 of the register, because an amount is at most 7 (law 3 of R163). -/
theorem shiftWindow_congr {data data' : BitVec 16} (amount : BitVec 3)
    (h : ∀ k, 0 < k → data.getLsbD k = data'.getLsbD k) : shiftWindow data amount = shiftWindow data' amount := by
  refine BitVec.eq_of_getLsbD_eq fun k hk => ?_
  rw [getLsbD_shiftWindow data amount hk, getLsbD_shiftWindow data' amount hk]
  exact h _ (by omega)

/-! Writes before the read. -/

theorem toNat_shiftIn_of_shiftIn (v1 v2 : Byte) (data : BitVec 16) :
    (shiftIn v2 (shiftIn v1 data)).toNat = v2.toNat * 256 + v1.toNat := by
  have hdata := data.isLt
  rw [toNat_shiftIn, toNat_shiftIn]
  omega

/-- Of two bytes in the register the window shows the low end of the later and the high end of the earlier (law 2 of
R163). -/
theorem toNat_shiftWindow_twoBytes (lo hi : Byte) (data : BitVec 16) (amount : BitVec 3) :
    (shiftWindow (shiftIn hi (shiftIn lo data)) amount).toNat =
      (hi.toNat <<< amount.toNat ||| lo.toNat >>> (8 - amount.toNat)) % 256 := by
  have hor : hi.toNat * 256 + lo.toNat = hi.toNat <<< 8 ||| lo.toNat := by
    rw [← Nat.shiftLeft_add_eq_or_of_lt lo.isLt, Nat.shiftLeft_eq]
  have hhigh : hi.toNat <<< 8 >>> (8 - amount.toNat) = hi.toNat <<< amount.toNat := by
    rw [← Nat.shiftLeft_sub _ (Nat.sub_le 8 _), Nat.sub_sub_self (Nat.le_of_lt amount.isLt)]
  rw [toNat_shiftWindow, toNat_shiftIn_of_shiftIn, hor, Nat.shiftRight_or_distrib, hhigh]

theorem toNat_shiftIn_of_zero (v : Byte) {data : BitVec 16} (h : data = 0#16) :
    (shiftIn v data).toNat = v.toNat <<< 8 := by
  simp [toNat_shiftIn, Nat.shiftLeft_eq, h]

/-- After one byte into a zero register the window is that byte moved left (law 4 of R163). -/
theorem toNat_shiftWindow_oneByte (v : Byte) {data : BitVec 16} (h : data = 0#16) (amount : BitVec 3) :
    (shiftWindow (shiftIn v data) amount).toNat = (v.toNat <<< amount.toNat) % 256 := by
  rw [toNat_shiftWindow_left, toNat_shiftIn_of_zero v h, ← Nat.shiftLeft_add, Nat.add_comm, Nat.shiftLeft_add,
    Nat.shiftLeft_shiftRight]

/-- Settles O12: `IN 3` reads the window, and `OUT 4` and `OUT 2` are moves of the register and the amount. -/
theorem shiftRegisterLaws : Obligations.ShiftRegisterLaws := by
  refine ⟨fun s => ⟨_, rfl, toNat_shiftWindow_left s.shiftData s.shiftAmount⟩, fun lo hi a s ha => ?_,
    fun s s' hamount hdata => ⟨_, _, rfl, rfl, ?_⟩, fun v s hs =>
      ⟨_, _, rfl, toNat_shiftIn_of_zero v hs, rfl, toNat_shiftWindow_oneByte v hs s.shiftAmount⟩⟩
  · have hwindow := toNat_shiftWindow_twoBytes lo hi s.shiftData (a.setWidth 3)
    rw [BitVec.toNat_setWidth, Nat.mod_eq_of_lt ha] at hwindow
    exact ⟨_, _, _, _, rfl, rfl, rfl, rfl, hwindow⟩
  · exact (shiftWindow_congr s.shiftAmount hdata).trans (congrArg (shiftWindow s'.shiftData) hamount)

/-- Settles O4: the word of `IN p` is `PortRead`, port by port. -/
theorem everyPortReadWord : Obligations.EveryPortReadWord := by
  intro p s
  have hmapped {q : Byte} (hq : p.toNat = q.toNat) : portRead s p = portRead s q :=
    congrArg (portRead s) (BitVec.eq_of_toNat_eq hq)
  exact ⟨_, _, decode_readWord p, rfl, exec_portReadInstr p s, hmapped (q := 0#8), hmapped (q := 1#8),
    hmapped (q := 2#8), fun h3 => (congrArg BitVec.toNat (hmapped (q := 3#8) h3)).trans (toNat_shiftWindow _ _),
    fun hp => portRead_of_unmapped hp s⟩

/-- Settles O2: `IN 3` puts the window in the accumulator. -/
theorem shiftWindowRead : Obligations.ShiftWindowRead :=
  ⟨decode_portRead 3#8, fun _ => ⟨_, rfl, rfl, toNat_shiftWindow _ _, fun _ hk => getLsbD_shiftWindow _ _ hk⟩⟩

/-- Settles O5: the amount written does not depend on the state, so a second write finds it there. -/
theorem shiftAmountWrite : Obligations.ShiftAmountWrite :=
  fun v => ⟨decode_portWrite 2#8 v, fun _ => ⟨_, rfl, rfl, BitVec.toNat_setWidth 3 v, rfl⟩⟩

/-- Settles O7: `OUT 4` is one move of the register. -/
theorem shiftDataWrite : Obligations.ShiftDataWrite :=
  ⟨fun v => ⟨decode_portWrite 4#8 v, fun s => ⟨_, rfl, rfl, toNat_shiftIn v s.shiftData⟩⟩,
    fun v1 v2 s => ⟨_, _, rfl, rfl, toNat_shiftIn_of_shiftIn v1 v2 s.shiftData⟩⟩

end Sys2Proof.Machine
end

section
/-! PROOFS. Edge detection of the two sound latches (R157, R159, R161). -/

namespace Sys2Proof.Machine

/-! The sounds of a latch are its rising bits, numbered from `n`: `n` is 0 for port 3 and 4 for port 5. -/

section

variable {prev v : Byte} {f : Fin 4 → SoundIndex} {n : Nat} (hf : ∀ b, (f b).val = b.val + n)
include hf

theorem risingSounds_sorted : ((risingBits prev v).map f).Pairwise (· < ·) := by
  refine List.pairwise_map.2 ((risingBits_sorted prev v).imp fun {b c} hbc => ?_)
  rw [Fin.lt_def, hf, hf]
  exact Nat.add_lt_add_right hbc n

theorem mem_risingSounds (i : SoundIndex) :
    i ∈ (risingBits prev v).map f ↔
      (n ≤ i.val ∧ i.val < n + 4) ∧ prev.getLsbD (i.val - n) = false ∧ v.getLsbD (i.val - n) = true := by
  simp only [List.mem_map, mem_risingBits]
  constructor
  · rintro ⟨b, hb, rfl⟩
    rw [hf, Nat.add_sub_cancel]
    exact ⟨by omega, hb⟩
  · rintro ⟨⟨hlo, hhi⟩, hi⟩
    exact ⟨⟨i.val - n, by omega⟩, hi, Fin.ext ((hf _).trans (Nat.sub_add_cancel hlo))⟩

/-- A sound is dispatched once or not at all, as its bit of `(v & ~prev) & 0x0F` is set or not (R161). -/
theorem count_risingSounds (b : Fin 4) :
    ((risingBits prev v).map f).count (f b) = if ((v &&& ~~~prev) &&& 0x0F#8).getLsbD b.val then 1 else 0 := by
  have hinj : Function.Injective f := fun b c h => by
    have := congrArg Fin.val h
    rw [hf, hf] at this
    omega
  have hnodup : (risingBits prev v).Nodup := (risingBits_sorted prev v).imp fun h => h.ne
  have hmask : ∀ b : Fin 4, (0x0F#8).getLsbD b.val = true := by decide
  have hbit : b ∈ risingBits prev v ↔ ((v &&& ~~~prev) &&& 0x0F#8).getLsbD b.val = true := by
    simp [mem_risingBits, hmask, and_comm, show b.val < 8 by omega]
  rw [List.count_map_of_injective _ f hinj, hnodup.count]
  simp only [hbit]

end

theorem latch3Sound_val (b : Fin 4) : (latch3Sound b).val = b.val + 0 := rfl

theorem latch5Sound_val (b : Fin 4) : (latch5Sound b).val = b.val + 4 := rfl

/-! The same write again raises no bit. -/

theorem risingBits_self (v : Byte) : risingBits v v = [] := by
  simp [List.eq_nil_iff_forall_not_mem, mem_risingBits]

theorem emitOneShots_nil (s : State) : emitOneShots [] s = s := by
  simp [emitOneShots]

theorem writeLatch3_idem (v : Byte) (s : State) : writeLatch3 v (writeLatch3 v s) = writeLatch3 v s := by
  have hprev : (writeLatch3 v s).latch3Prev = v := rfl
  rw [writeLatch3, hprev, risingBits_self, List.map_nil, emitOneShots_nil]
  rfl

theorem writeLatch5_idem (v : Byte) (s : State) : writeLatch5 v (writeLatch5 v s) = writeLatch5 v s := by
  have hprev : (writeLatch5 v s).latch5Prev = v := rfl
  rw [writeLatch5, hprev, risingBits_self, List.map_nil, emitOneShots_nil]
  rfl

/-- Settles O11: the dispatched sounds of either port are its rising bits, and a second write raises none. -/
theorem soundEdgesDispatchOnce : Obligations.SoundEdgesDispatchOnce := by
  intro v s
  refine ⟨writeLatch3 v s, writeLatch5 v s, (risingBits s.latch3Prev v).map latch3Sound,
    (risingBits s.latch5Prev v).map latch5Sound, rfl, rfl, rfl, rfl,
    fun b => ⟨count_risingSounds latch3Sound_val b, count_risingSounds latch5Sound_val b⟩,
    fun i hi => ?_, fun j hj => ?_, ⟨rfl, rfl⟩, ⟨rfl, rfl⟩,
    congrArg Host.Outcome.next (writeLatch3_idem v s), congrArg Host.Outcome.next (writeLatch5_idem v s)⟩
  · exact ((mem_risingSounds latch3Sound_val i).1 hi).1.2
  · exact ((mem_risingSounds latch5Sound_val j).1 hj).1.1

/-- Settles O6: the sounds of port 3 are its rising bits. -/
theorem soundLatch3Write : Obligations.SoundLatch3Write := by
  refine fun v => ⟨decode_portWrite 3#8 v, fun s => ⟨_, (risingBits s.latch3Prev v).map latch3Sound, rfl, rfl,
    risingSounds_sorted latch3Sound_val, fun i => ?_⟩⟩
  rw [mem_risingSounds latch3Sound_val]
  simp

/-- Settles O8: the sounds of port 5 are its rising bits, moved up by 4. -/
theorem soundLatch5Write : Obligations.SoundLatch5Write := by
  refine fun v => ⟨decode_portWrite 5#8 v, fun s => ⟨_, (risingBits s.latch5Prev v).map latch5Sound, rfl, rfl,
    risingSounds_sorted latch5Sound_val, fun i => ?_⟩⟩
  rw [mem_risingSounds latch5Sound_val, and_iff_left (show i.val < 4 + 4 from i.isLt)]

end Sys2Proof.Machine
end

section
/-! PROOFS. Looped playback: what `LOOPSTART` and `LOOPSTOP` do, and that nothing else starts or stops a loop (R165 to
R167, R255). -/

namespace Sys2Proof.Machine

variable {s t : State} {i : Instr}

/-- Settles O14: the sink's set has the loop after it, and a second start writes the same entry again. -/
theorem loopStartEmits : Obligations.LoopStartEmits :=
  fun n => ⟨decode_loopWord false n, fun _ =>
    ⟨_, rfl, rfl, Vector.getElem_set_self n.isLt, _, rfl, Vector.set_set _ n.isLt⟩⟩

/-- Settles O15: the sink's set has not the loop after it. -/
theorem loopStopEmits : Obligations.LoopStopEmits :=
  fun n => ⟨decode_loopWord true n, fun _ => ⟨_, rfl, rfl, Vector.getElem_set_self n.isLt⟩⟩

/-- From `s` to `t` no loop event is emitted and the same loops play. -/
structure SameLoops (s t : State) : Prop where
  loopActive : t.loopActive = s.loopActive
  events : ∃ es, t.out = s.out ++ es ∧ ∀ e ∈ es, isLoopEvent e = false

theorem sameLoops_of_out_eq (hloop : t.loopActive = s.loopActive) (hout : t.out = s.out) : SameLoops s t :=
  ⟨hloop, [], by rw [hout, List.append_nil], by simp⟩

theorem portWrite_sameLoops (p v : Byte) (s : State) : SameLoops s (portWrite p v s) := by
  obtain ⟨hreach, -, -, is, hout⟩ := portWrite_reach p v s
  refine ⟨by rw [hreach], is.map Event.oneShot, hout, fun e he => ?_⟩
  obtain ⟨n, -, rfl⟩ := List.mem_map.1 he
  rfl

theorem handleKeyChange_sameLoops (k : LogicalKey) (down : Bool) (s : State) :
    SameLoops s (handleKeyChange k down s) := by
  rw [handleKeyChange_reach]
  exact sameLoops_of_out_eq rfl rfl

theorem pollKeys_sameLoops (s : State) : SameLoops s (pollKeys s) := by
  rw [pollKeys_reach]
  exact sameLoops_of_out_eq rfl rfl

theorem isLoopEvent_eq_false_of_isCpuEvent {e : Event} (he : isCpuEvent e = true) : isLoopEvent e = false := by
  cases e with
  | cpuStep | oneShot | intReq | present => rfl
  | loopStart | loopStop => cases he

theorem isLoopEvent_of_mem_interruptEvents {e : Event} (he : e ∈ interruptEvents s) : isLoopEvent e = false := by
  unfold interruptEvents at he
  split at he
  · rw [List.mem_singleton.1 he]
    rfl
  · cases he

/-- An iteration emits interrupt requests, the events of CPU steps and a presentation (R131). -/
theorem iteration_sameLoops (core : CpuCore) (s : State) : SameLoops s (iteration core s) := by
  obtain ⟨runs, hout, hspends⟩ := iteration_out core s
  refine ⟨?_, interruptEvents (beginIteration s) ++ runs ++ [.present (iteration core s).framebuffer],
    by simpa only [List.append_assoc] using hout, fun e he => ?_⟩
  · rw [iteration_refreshedAt core s, iterationRan_reach core s]
  · simp only [List.mem_append, List.mem_singleton] at he
    obtain (he | he) | rfl := he
    · exact isLoopEvent_of_mem_interruptEvents he
    · exact isLoopEvent_eq_false_of_isCpuEvent (hspends.groups.1 e he)
    · rfl

/-- Every operation but `LOOPSTART`, `LOOPSTOP` and `RESET`, which empties the trace, leaves the loops alone. -/
theorem sameLoops_of_effect (he : Effect s i t) (hstart : ∀ n, i ≠ .loopStart n) (hstop : ∀ n, i ≠ .loopStop n)
    (hreset : i ≠ .reset) : SameLoops s t := by
  cases he with
  | loopStart n => exact absurd rfl (hstart n)
  | loopStop n => exact absurd rfl (hstop n)
  | reset => exact absurd rfl hreset
  | read | ignored | decodeTop | decodeBottom | decodeFull => exact sameLoops_of_out_eq rfl rfl
  | out2 v => exact portWrite_sameLoops 2#8 v s
  | out3 v => exact portWrite_sameLoops 3#8 v s
  | out4 v => exact portWrite_sameLoops 4#8 v s
  | out5 v => exact portWrite_sameLoops 5#8 v s
  | key down k => exact handleKeyChange_sameLoops k down s
  | tick => exact iteration_sameLoops Config.cpuCore s
  | poll => exact pollKeys_sameLoops s

/-- Settles O17: by the operation's effect; `RESET` keeps the sink's set. -/
theorem loopsAreNotWired : Obligations.LoopsAreNotWired := by
  intro i s t h hstart hstop
  by_cases hreset : i = .reset
  · subst hreset
    cases h
    exact ⟨rfl, fun hne => absurd rfl hne⟩
  · have hsame := sameLoops_of_effect (effect_of_exec_next h) hstart hstop hreset
    exact ⟨hsame.loopActive, fun _ => hsame.events⟩

end Sys2Proof.Machine
end

section
/-! PROOFS. The key events, key by key (R170, R211 to R221). -/

namespace Sys2Proof.Machine

/-- A key of port 1 whose mask is bit `n` sets that bit (R170). -/
theorem keyEvent_setsPort1Bit {k : LogicalKey} {n : Nat} (hport : keyPort k = .port1)
    (hmask : keyMask k = BitVec.twoPow 8 n) (hn : n < 8) (down : Bool) : SetsPort1Bit (keyEvent down k) n down := by
  intro s
  refine ⟨_, exec_keyEvent down k s, ?_, fun j hj => ?_⟩ <;> rw [handleKeyChange_of_port1 hport]
  · rfl
  · rw [setPort1_port1, hmask, getLsbD_setKeyBit n j down s.port1 hn hj]

/-- A key of port 2 whose mask is bit `n` sets that bit (R170). -/
theorem keyEvent_setsPort2Bit {k : LogicalKey} {n : Nat} (hport : keyPort k = .port2)
    (hmask : keyMask k = BitVec.twoPow 8 n) (hn : n < 8) (down : Bool) : SetsPort2Bit (keyEvent down k) n down := by
  intro s
  refine ⟨_, exec_keyEvent down k s, ?_, fun j hj => ?_⟩ <;> rw [handleKeyChange_of_port2 hport]
  · rfl
  · rw [setPort2_port2, hmask, getLsbD_setKeyBit n j down s.port2 hn hj]

/-- Settles O18: the ids of R96 and the masks of R211, for the keys of port 1. -/
theorem port1Keys : Obligations.Port1Keys := by
  intro d
  refine ⟨fun k hk => (decode_keyWord d k).trans ?_, keyEvent_setsPort1Bit (k := .p1Start) rfl rfl (by decide) d,
    keyEvent_setsPort1Bit (k := .p1Shoot) rfl rfl (by decide) d,
    keyEvent_setsPort1Bit (k := .p1Left) rfl rfl (by decide) d,
    keyEvent_setsPort1Bit (k := .p1Right) rfl rfl (by decide) d,
    keyEvent_setsPort1Bit (k := .p2Start) rfl rfl (by decide) d,
    keyEvent_setsPort1Bit (k := .coin) rfl rfl (by decide) d⟩
  simp only [List.mem_cons, List.not_mem_nil, or_false] at hk
  obtain rfl | rfl | rfl | rfl | rfl | rfl := hk <;> rfl

/-- Settles O19: the ids of R96 and the masks of R211, for the keys of port 2. -/
theorem port2Keys : Obligations.Port2Keys := by
  intro d
  refine ⟨fun k hk => (decode_keyWord d k).trans ?_, keyEvent_setsPort2Bit (k := .p2Shoot) rfl rfl (by decide) d,
    keyEvent_setsPort2Bit (k := .p2Left) rfl rfl (by decide) d,
    keyEvent_setsPort2Bit (k := .p2Right) rfl rfl (by decide) d,
    keyEvent_setsPort2Bit (k := .tilt) rfl rfl (by decide) d⟩
  simp only [List.mem_cons, List.not_mem_nil, or_false] at hk
  obtain rfl | rfl | rfl | rfl := hk <;> rfl

end Sys2Proof.Machine
end

section
/-! PROOFS. The framebuffer decoder: the pixel mapping, the colours of the zones, the two halves, and what a decode
reads (R190 to R200). -/

namespace Sys2Proof.Machine

/-! The pixel mapping. -/

theorem pixelBit_lt (cy : Fin 256) : pixelBit cy < 8 := Nat.mod_lt _ (by decide)

/-- Settles O21: the two maps invert each other, and the cell of a video bit is on the canvas. -/
theorem pixelMappingBijective : Obligations.PixelMappingBijective := by
  refine ⟨fun _ _ cx cy _ hb => cell_eq_iff_pixel_eq cx cy hb, fun n b hn hb => ?_,
    fun cx cy => ⟨pixelByte_lt cx cy, pixelBit_lt cy⟩⟩
  have hcx : n / 32 < 224 := by omega
  have hcy : 255 - (n % 32 * 8 + b) < 256 := by omega
  exact ⟨⟨n / 32, hcx⟩, ⟨255 - (n % 32 * 8 + b), hcy⟩, (cell_eq_iff_pixel_eq _ _ hb).1 ⟨rfl, rfl⟩⟩

/-- Column 112 is the first of the Bottom half (D18): a column is 32 video bytes. -/
theorem pixelByte_lt_halfSplitByte_iff (cx : Fin 224) (cy : Fin 256) :
    pixelByte cx cy < halfSplitByte ↔ cx.val < 112 := by
  unfold pixelByte halfSplitByte
  omega

/-! The colours. The zones of R193 exclude each other, and so do the four colours. -/

theorem overlayColour_unlit (cx : Fin 224) (cy : Fin 256) : overlayColour cx cy false = colorOff := rfl

theorem overlayColour_lit (cx : Fin 224) (cy : Fin 256) :
    overlayColour cx cy true =
      if 32 ≤ cy.val ∧ cy.val < 64 then colorRed
      else if (184 ≤ cy.val ∧ cy.val < 240) ∨ (184 ≤ cy.val ∧ 16 ≤ cx.val ∧ cx.val < 134) then colorGreen
      else colorWhite := rfl

theorem overlayColour_lit_ne_off (cx : Fin 224) (cy : Fin 256) : overlayColour cx cy true ≠ colorOff := by
  rw [overlayColour_lit]
  split_ifs <;> decide

theorem overlayColour_lit_eq_red_iff (cx : Fin 224) (cy : Fin 256) :
    overlayColour cx cy true = colorRed ↔ 32 ≤ cy.val ∧ cy.val < 64 := by
  rw [overlayColour_lit]
  split_ifs with hred
  · exact iff_of_true rfl hred
  · exact iff_of_false (by decide) hred
  · exact iff_of_false (by decide) hred

theorem overlayColour_lit_eq_green_iff (cx : Fin 224) (cy : Fin 256) :
    overlayColour cx cy true = colorGreen ↔
      (184 ≤ cy.val ∧ cy.val < 240) ∨ (184 ≤ cy.val ∧ 16 ≤ cx.val ∧ cx.val < 134) := by
  rw [overlayColour_lit]
  split_ifs with hred hgreen
  · exact iff_of_false (by decide) (by omega)
  · exact iff_of_true rfl hgreen
  · exact iff_of_false (by decide) hgreen

theorem overlayColour_lit_eq_white_iff (cx : Fin 224) (cy : Fin 256) :
    overlayColour cx cy true = colorWhite ↔ ¬(32 ≤ cy.val ∧ cy.val < 64) ∧
      ¬((184 ≤ cy.val ∧ cy.val < 240) ∨ (184 ≤ cy.val ∧ 16 ≤ cx.val ∧ cx.val < 134)) := by
  rw [overlayColour_lit]
  split_ifs with hred hgreen
  · exact iff_of_false (by decide) fun h => h.1 hred
  · exact iff_of_false (by decide) fun h => h.2 hgreen
  · exact iff_of_true rfl ⟨hred, hgreen⟩

/-! The cells of a decode. -/

section

variable {lo hi : Nat} {m m' : Memory} {fb fb' : Framebuffer} {cx : Fin 224} {cy : Fin 256}

theorem cellAt_decodeBytes_of_outside (h : ¬(lo ≤ pixelByte cx cy ∧ pixelByte cx cy < hi)) :
    cellAt (decodeBytes lo hi m fb) cx cy = cellAt fb cx cy := by
  rw [cellAt_decodeBytes, if_neg h]

theorem cellAt_decodeTopHalf_of_bottom (s : State) (hcx : 112 ≤ cx.val) :
    cellAt (decodeTopHalf s).framebuffer cx cy = cellAt s.framebuffer cx cy :=
  cellAt_decodeBytes_of_outside fun ⟨_, hhi⟩ => Nat.not_lt.2 hcx ((pixelByte_lt_halfSplitByte_iff cx cy).1 hhi)

theorem cellAt_decodeBottomHalf_of_top (s : State) (hcx : cx.val < 112) :
    cellAt (decodeBottomHalf s).framebuffer cx cy = cellAt s.framebuffer cx cy :=
  cellAt_decodeBytes_of_outside fun ⟨hlo, _⟩ => Nat.not_lt.2 hlo ((pixelByte_lt_halfSplitByte_iff cx cy).2 hcx)

/-- `DECODE Full` keeps no cell: each has its byte in the window. -/
theorem cellAt_decodeWhole (s : State) (cx : Fin 224) (cy : Fin 256) :
    cellAt (decodeWhole s).framebuffer cx cy =
      overlayColour cx cy ((vramByte s.mem (pixelByte cx cy)).getLsbD (pixelBit cy)) :=
  (cellAt_decodeBytes _ _ _ _ cx cy).trans (if_pos ⟨Nat.zero_le _, pixelByte_lt cx cy⟩)

/-- Decodes of one memory commute whatever their ranges: a cell that both write gets the same colour from each. -/
theorem decodeBytes_comm (lo hi lo' hi' : Nat) (m : Memory) (fb : Framebuffer) :
    decodeBytes lo hi m (decodeBytes lo' hi' m fb) = decodeBytes lo' hi' m (decodeBytes lo hi m fb) := by
  refine framebuffer_ext _ _ fun cx cy => ?_
  simp only [cellAt_decodeBytes]
  split_ifs <;> rfl

/-- Decodes of two adjacent ranges are the decode of their union. -/
theorem decodeBytes_adjacent {mid : Nat} (hlo : lo ≤ mid) (hhi : mid ≤ hi) (m : Memory) (fb : Framebuffer) :
    decodeBytes mid hi m (decodeBytes lo mid m fb) = decodeBytes lo hi m fb := by
  refine framebuffer_ext _ _ fun cx cy => ?_
  simp only [cellAt_decodeBytes]
  obtain hmid | hmid := Nat.lt_or_ge (pixelByte cx cy) mid
  · simp only [hmid, hmid.trans_le hhi, Nat.not_le.2 hmid, and_true, if_false]
  · simp only [hmid, hlo.trans hmid, Nat.not_lt.2 hmid, true_and, and_false, if_false]

/-- A decode depends on the video bytes of its range and on the cells it keeps (R199). -/
theorem decodeBytes_congr (hmem : ∀ n, lo ≤ n → n < hi → vramByte m n = vramByte m' n)
    (hkept : ∀ cx cy, ¬(lo ≤ pixelByte cx cy ∧ pixelByte cx cy < hi) → cellAt fb cx cy = cellAt fb' cx cy) :
    decodeBytes lo hi m fb = decodeBytes lo hi m' fb' := by
  refine framebuffer_ext _ _ fun cx cy => ?_
  rw [cellAt_decodeBytes, cellAt_decodeBytes]
  split_ifs with hrange
  · rw [hmem _ hrange.1 hrange.2]
  · exact hkept cx cy hrange

end

/-- Settles O22: every cell has the colour of its bit, and the zones of R193 fix which. -/
theorem colourOfPixel : Obligations.ColourOfPixel := by
  intro s
  refine ⟨decodeWhole s, rfl, fun cx cy => ?_⟩
  intro lit red green
  have hcell : cellAt (decodeWhole s).framebuffer cx cy = overlayColour cx cy lit := cellAt_decodeWhole s cx cy
  rw [hcell]
  cases lit with
  | false => exact ⟨fun _ => overlayColour_unlit cx cy, nofun, nofun, nofun⟩
  | true =>
    exact ⟨nofun, fun _ hred => (overlayColour_lit_eq_red_iff cx cy).2 hred,
      fun _ hgreen => (overlayColour_lit_eq_green_iff cx cy).2 hgreen,
      fun _ hred hgreen => (overlayColour_lit_eq_white_iff cx cy).2 ⟨hred, hgreen⟩⟩

/-! The halves and the whole. -/

/-- Settles O23: the decode of the range, and the columns whose bytes lie above it. -/
theorem decodeTop_decodesTopHalf : Obligations.DecodeTopHalf :=
  ⟨rfl, fun s => ⟨decodeTopHalf s, rfl, rfl, decodedInto_decodeBytes _ _ s.mem s.framebuffer,
    fun _ _ hcx => cellAt_decodeTopHalf_of_bottom s hcx⟩⟩

/-- Settles O24: the decode of the range, and the columns whose bytes lie below it. -/
theorem decodeBottom_decodesBottomHalf : Obligations.DecodeBottomHalf :=
  ⟨rfl, fun s => ⟨decodeBottomHalf s, rfl, rfl, decodedInto_decodeBytes _ _ s.mem s.framebuffer,
    fun _ _ hcx => cellAt_decodeBottomHalf_of_top s hcx⟩⟩

theorem decodeBottomHalf_decodeTopHalf (s : State) : decodeBottomHalf (decodeTopHalf s) = decodeWhole s :=
  congrArg s.setFramebuffer (decodeBytes_adjacent (by decide) (by decide) s.mem s.framebuffer)

theorem decodeTopHalf_decodeBottomHalf (s : State) : decodeTopHalf (decodeBottomHalf s) = decodeWhole s :=
  (congrArg s.setFramebuffer (decodeBytes_comm _ _ _ _ s.mem s.framebuffer)).trans (decodeBottomHalf_decodeTopHalf s)

/-- Settles O25: the halves are adjacent ranges, and decodes commute. -/
theorem decodeFullIsBothHalves : Obligations.DecodeFullIsBothHalves :=
  ⟨rfl, fun s => ⟨decodeWhole s, decodeTopHalf s, decodeBottomHalf s, rfl, rfl,
    decodedInto_decodeBytes _ _ s.mem s.framebuffer, rfl, congrArg _ (decodeBottomHalf_decodeTopHalf s), rfl,
    congrArg _ (decodeTopHalf_decodeBottomHalf s)⟩⟩

/-! What a decode reads. -/

/-- Settles O26: equal bytes in the range and equal cells outside it give equal framebuffers. -/
theorem decodeIsPure : Obligations.DecodeIsPure := by
  refine ⟨fun s s' hmem hkept => ⟨decodeTopHalf s, decodeTopHalf s', rfl, rfl, ?top⟩,
    fun s s' hmem hkept => ⟨decodeBottomHalf s, decodeBottomHalf s', rfl, rfl, ?bottom⟩,
    fun s s' hmem => ⟨decodeWhole s, decodeWhole s', rfl, rfl, ?full⟩⟩
  case top =>
    refine decodeBytes_congr (fun n _ hn => hmem n hn) fun cx cy hout => hkept cx cy (Nat.le_of_not_lt fun hcx => ?_)
    exact hout ⟨Nat.zero_le _, (pixelByte_lt_halfSplitByte_iff cx cy).2 hcx⟩
  case bottom =>
    refine decodeBytes_congr hmem fun cx cy hout => hkept cx cy ((pixelByte_lt_halfSplitByte_iff cx cy).1 ?_)
    exact Nat.lt_of_not_le fun hlo => hout ⟨hlo, pixelByte_lt cx cy⟩
  case full =>
    exact decodeBytes_congr (fun n _ hn => hmem n hn)
      fun cx cy hout => absurd ⟨Nat.zero_le _, pixelByte_lt cx cy⟩ hout

/-- When every video byte is `v`, a cell shows its bit of `v`. -/
theorem cellAt_decodeWhole_of_uniform {s : State} {v : Byte} (h : ∀ n, n < 7168 → vramByte s.mem n = v)
    (cx : Fin 224) (cy : Fin 256) :
    cellAt (decodeWhole s).framebuffer cx cy = overlayColour cx cy (v.getLsbD (pixelBit cy)) := by
  rw [cellAt_decodeWhole, h _ (pixelByte_lt cx cy)]

/-- Settles O27: no bit of 0x00 is lit and every bit of 0xFF is. -/
theorem uniformVideoMemory : Obligations.UniformVideoMemory := by
  refine ⟨fun s hzero => ⟨decodeWhole s, rfl, fun cx cy => ?_⟩,
    fun s hones => ⟨decodeWhole s, rfl, fun cx cy => ?_⟩⟩
  · rw [cellAt_decodeWhole_of_uniform hzero, BitVec.getLsbD_zero]
    exact overlayColour_unlit cx cy
  · have hlit : (0xFF#8).getLsbD (pixelBit cy) = true :=
      (BitVec.getLsbD_allOnes (v := 8)).trans (decide_eq_true (pixelBit_lt cy))
    rw [cellAt_decodeWhole_of_uniform hones, hlit]
    exact ⟨overlayColour_lit_ne_off cx cy, overlayColour_lit_eq_red_iff cx cy, overlayColour_lit_eq_green_iff cx cy,
      overlayColour_lit_eq_white_iff cx cy⟩

end Sys2Proof.Machine
end

section
/-! PROOFS. The poll's effect, in any order of the keys (R210, R211). -/

namespace Sys2Proof.Machine

/-- The order of the keys does not matter to a poll: each key sets its own bit. -/
theorem foldl_pollKey_of_perm {ks : List LogicalKey} (hks : ks.Perm allKeys) (s : State) :
    ks.foldl pollKey s = pollKeys s :=
  hks.foldl_eq (rcomm := pollKey_rightCommutative) s

/-- Settles O20: the bits of the ten masks, the frame of a poll, and key events that commute. -/
theorem pollSetsLatches : Obligations.PollSetsLatches :=
  fun s => ⟨pollKeys s, rfl, pollKeys_reach s, polledLatches_pollKeys s, fun _ hks => foldl_pollKey_of_perm hks s⟩

end Sys2Proof.Machine
end

section
/-! PROOFS. The exceptions and the external interfaces: what can stop (R230, R231), what the interrupt request does to the
CPU core (R238, R250), and the audio sink's set of loops (R255). -/

namespace Sys2Proof.Machine

/-- Settles O37: the request is a write of the core's registers and of its stores to memory. -/
theorem interruptRequestReachesCore : Obligations.InterruptRequestReachesCore := by
  intro core v s
  refine ⟨requestInterrupt core v s, rfl, rfl, fun hwf => ?_⟩
  exact ⟨storeCells_wf _ s.mem hwf, fun a => readByte_storeCells _ s.mem a hwf⟩

/-- Every operation but `TICK` answers a next state from every state. -/
theorem exec_next_of_ne_tick {i : Instr} (hi : i ≠ .tick) (s : State) : ∃ t, exec i s = .next t := by
  cases i with
  | tick => exact absurd rfl hi
  | _ => exact ⟨_, rfl⟩

/-- Settles O44: `TICK` has the guard of R134, and no other operation has one. -/
theorem onlyTickCanRefuse : Obligations.OnlyTickCanRefuse := by
  intro i s
  by_cases hi : i = .tick
  · subst hi
    by_cases hback : s.started = true ∧ s.now < s.lastTime
    · obtain ⟨hs, hlt⟩ := hback
      exact .inr ⟨rfl, hs, hlt, tickRefusesEarlierTime s hs hlt⟩
    · exact .inl ⟨_, exec_tick_of_le fun hs => Nat.le_of_not_lt fun hlt => hback ⟨hs, hlt⟩⟩
  · exact .inl (exec_next_of_ne_tick hi s)

/-- Which loops the sink plays after one entry of its set is written. -/
theorem getElem_setLoop (i j : SoundIndex) (playing : Bool) (s : State) :
    (s.setLoop i playing).loopActive[j.val] = if j = i then playing else s.loopActive[j.val] := by
  simp only [setLoop_loopActive, Vector.getElem_set, Fin.ext_iff, eq_comm]

/-- Settles O16: a start and a stop each write the loop's own entry, and the second one writes it again. -/
theorem audioSinkLoops : Obligations.AudioSinkLoops := by
  intro i s
  refine ⟨_, _, _, _, rfl, rfl, rfl, rfl, fun j => ?_, Vector.set_set _ i.isLt, Vector.set_set _ i.isLt⟩
  exact ⟨getElem_setLoop i j true (s.emit (.loopStart i)), getElem_setLoop i j false (s.emit (.loopStop i))⟩

end Sys2Proof.Machine
end
